-- ==== Sys2Proof/Config.lean ====
section
/-!
DEFINITION. What 00_scope.md rule R7 leaves to the implementation: the two OPEN parameters and the policy value it fixes.
-/
namespace Sys2Proof.Config

/-- A type, and nothing else said of it. -/
class ErrorType where
  carrier : Type

/-- What State needs of the type of error values and every type with an element has: an element (P8 of 95_test_vectors.md presents
one), a way to write a value out, and a way to compare two. Lean's order is there for its comparison alone: the model never asks
which of two error values is the smaller (log entry 7). -/
class ErrorKit extends ErrorType, Inhabited carrier, Repr carrier, LinearOrder carrier

/-- The transport's choice of the type. It has no body: no proof can see which type it is (DESIGN CHOICE, log entry 7). -/
opaque errorKit [Inhabited ErrorKit] : ErrorKit

/-- `TransportError` (R7, R85; 93 I1), OPEN: the type `errorKit` chose. The one-element type written here only shows Lean that some
choice exists; no proof can tell that it was taken (log entry 7). -/
abbrev TransportError : Type :=
  (@errorKit ⟨{ carrier := Unit, reprPrec := reprPrec, default := (), toLinearOrder := inferInstance }⟩).carrier

/-- `UPM - 1` (R7; 93 I2). It has no body: no proof can see which number it is (DESIGN CHOICE, safe, log entry 6). -/
opaque upmPred : Nat

/-- `UPM`, time units per millisecond: a positive integer, and nothing else is known of it (R7). -/
def upm : Nat := upmPred + 1

/-- The two values of `READ_TIMEOUT_POLICY` (R7, R175; 90_conflicts.md C2). -/
inductive ReadTimeoutPolicy where
  | configured
  | remaining
  deriving DecidableEq, Repr

/-- `READ_TIMEOUT_POLICY = CONFIGURED` (R7; 90_conflicts.md C2; DESIGN CHOICE of the spec, log entry 8). -/
def readTimeoutPolicy : ReadTimeoutPolicy := .configured

end Sys2Proof.Config
end

