-- ==== Sys2Proof/Word.lean ====
section
/-!
DEFINITION. The byte arrays the CORE moves (20_memory.md R50) and the raw words of the five input formats (30_encoding.md R70).
-/
namespace Sys2Proof

/-- A byte, `0x00..0xFF` (R8). -/
abbrev Byte := BitVec 8

/-- The 16-bit value of a packet (R76). -/
abbrev Value := BitVec 16

/-- An 8-byte array `f[0..7]` (R9): a raw frame, a key or a cleartext block. `b0` is byte 0. -/
structure Bytes8 where
  (b0 b1 b2 b3 b4 b5 b6 b7 : Byte)
  deriving DecidableEq, Repr

/-- A 5-byte packet `p[0..4]` (R74), its bytes under the names of R74's table. -/
structure Packet where
  tag        : Byte
  valueHi    : Byte
  valueLo    : Byte
  checksum   : Byte
  terminator : Byte
  deriving DecidableEq, Repr

/-- A host command as the host presents it (R82); `key` is `W(key)`, `tmoMs` is two's-complement signed. -/
structure CmdWord where
  op    : BitVec 2
  key   : BitVec 64
  tmoEn : BitVec 1
  tmoMs : BitVec 64
  deriving DecidableEq, Repr

/-- The rows of format `fd` (R70, R89): a row is chosen by its position, no bits choose it. -/
inductive FdRow where
  | permute
  | xorKey
  | rotr3
  | subMask
  | decrypt
  deriving DecidableEq, Repr

/-- One input of the CORE before decoding, in the format it arrives in (R70). The error value stands beside the response
word and means something only when `ERR = 1` (R85). -/
inductive RawWord where
  | cmd    (c : CmdWord)
  | rsp    (w : BitVec 72) (e : Config.TransportError)
  | frame  (w : BitVec 64)
  | fd     (row : FdRow) (x : BitVec 64) (key : BitVec 64)
  | packet (w : BitVec 40)
  deriving DecidableEq, Repr

end Sys2Proof
end

