-- ==== Sys2Proof/Machine/Bits.lean ====
section
/-!
DEFINITION. The word views of byte arrays (00_scope.md R9) and the byte operations of R10.
-/
namespace Sys2Proof.Machine

/-- `W(f)` (R9): byte 0 in bits 63:56. -/
def wordView (f : Bytes8) : BitVec 64 :=
  f.b0 ++ f.b1 ++ f.b2 ++ f.b3 ++ f.b4 ++ f.b5 ++ f.b6 ++ f.b7

/-- `B(w)` (R9), the inverse of `wordView`. -/
def bytesView (w : BitVec 64) : Bytes8 where
  b0 := w.extractLsb' 56 8
  b1 := w.extractLsb' 48 8
  b2 := w.extractLsb' 40 8
  b3 := w.extractLsb' 32 8
  b4 := w.extractLsb' 24 8
  b5 := w.extractLsb' 16 8
  b6 := w.extractLsb' 8 8
  b7 := w.extractLsb' 0 8

/-- `W5(p)` (R9, R74): the tag in bits 39:32. -/
def packetWord (p : Packet) : BitVec 40 :=
  p.tag ++ p.valueHi ++ p.valueLo ++ p.checksum ++ p.terminator

/-- The packet a 40-bit word holds (R74), the inverse of `packetWord`. -/
def packetOfWord (w : BitVec 40) : Packet where
  tag        := w.extractLsb' 32 8
  valueHi    := w.extractLsb' 24 8
  valueLo    := w.extractLsb' 16 8
  checksum   := w.extractLsb' 8 8
  terminator := w.extractLsb' 0 8

/-- The nibble swap `((m << 4) | (m >> 4)) mod 256` (R79). -/
def nibbleSwap (m : Byte) : Byte := (m <<< 4) ||| (m >>> 4)

/-- Apply an operation to the bytes of two arrays position by position (R102, R104). -/
def zipBytes (op : Byte → Byte → Byte) (x y : Bytes8) : Bytes8 where
  b0 := op x.b0 y.b0
  b1 := op x.b1 y.b1
  b2 := op x.b2 y.b2
  b3 := op x.b3 y.b3
  b4 := op x.b4 y.b4
  b5 := op x.b5 y.b5
  b6 := op x.b6 y.b6
  b7 := op x.b7 y.b7

/-- Apply an operation to every byte of an array. -/
def mapBytes (op : Byte → Byte) (x : Bytes8) : Bytes8 where
  b0 := op x.b0
  b1 := op x.b1
  b2 := op x.b2
  b3 := op x.b3
  b4 := op x.b4
  b5 := op x.b5
  b6 := op x.b6
  b7 := op x.b7

end Sys2Proof.Machine
end

