-- ==== Sys2Proof/Machine/Data.lean ====
section
/-!
DEFINITION. The data types of the units' results, of the RA's control state and of the CORE's interfaces.
-/
namespace Sys2Proof.Machine

/-- The kind of a reading (30_encoding.md R75, R87). -/
inductive Kind where
  | humidity
  | temperature
  | co2
  | unknown
  deriving DecidableEq, Repr

/-- A single reading (41_validator.md R130): a kind with its 16-bit value; an unknown kind keeps its tag. -/
inductive Reading where
  | humidity (value : Value)
  | temperature (value : Value)
  | co2 (value : Value)
  | unknown (tag : Byte) (value : Value)
  deriving DecidableEq, Repr

/-- The two ways a packet fails (R130). -/
inductive DecodeError where
  | invalidMessage
  | checksum
  deriving DecidableEq, Repr

/-- What the PV answers for a packet (R130). -/
inductive DecodeResult where
  | ok (r : Reading)
  | err (d : DecodeError)
  deriving DecidableEq, Repr

/-- The status of the last command (30_encoding.md R86). Codes 6 and 7 are never written (93 I23) and have no constructor. -/
inductive Status where
  | ok
  | invalidMessage
  | checksum
  | timeout
  | invalidTimeout
  | transport
  deriving DecidableEq, Repr

/-- `ST` (10_state.md R24). Encoding 3 is never reached (93 I23) and has no constructor. -/
inductive RaState where
  | idle
  | busyOne
  | busyComb
  deriving DecidableEq, Repr

/-- One thing the CORE put on an output (log entry 12). -/
inductive Emission where
  /-- `emit Req(t)` on the transport interface, `t` 32-bit signed (R84). -/
  | request (t : BitVec 32)
  /-- The block SELECT_BLOCK gave for a frame evaluated by itself (R106). -/
  | selected (block : Bytes8)
  /-- What a row of format `fd` gave when evaluated by itself (R101 to R105). -/
  | fdOutput (row : FdRow) (bytes : Bytes8)
  /-- What the PV gave for a packet evaluated by itself (R130). -/
  | decoded (r : DecodeResult)
  deriving DecidableEq, Repr

/-- One move of the CORE's surroundings (42_accumulator.md R170, R195; log entry 2). `now` is the value the time input has
then (R188). -/
inductive Input where
  /-- A raw word arrives: a command presented, a response delivered, or a unit evaluated by itself. -/
  | word (w : RawWord) (now : Nat)
  /-- Time passes; the host goes on presenting what stands on its port, if anything does (R171). -/
  | tick (now : Nat)
  /-- The host withdraws the command it presents (R171). -/
  | withdraw
  /-- The reset input (70_reset_and_hazards.md R250). -/
  | reset
  deriving DecidableEq, Repr, Inhabited

/-- What the surroundings do once the listed moves are over (42_accumulator.md R185, R193; log entry 24). -/
inductive Afterwards where
  /-- They never move again. -/
  | silent
  /-- They make these moves over and over, without end. -/
  | repeated (moves : List Input)
  /-- They go on without end, with moves nothing is known of: the next one is `Config.freeMove n`. -/
  | free (n : Nat)
  deriving DecidableEq, Repr

end Sys2Proof.Machine

namespace Sys2Proof.Config

/-- The moves of surroundings of which nothing is known, one after the other (93 I3, I18, I19, I21; log entry 24). It has no body:
a claim about a run that takes its moves from here holds for every endless sequence of moves. -/
opaque freeMove : Nat → Machine.Input

end Sys2Proof.Config
end

