-- ==== Sys2Proof/Machine/Params.lean ====
section
/-!
DEFINITION. The fixed values of 00_scope.md R7 and the codes of 30_encoding.md. The source's literals are unaudited (UNVERIFIED,
unsafe, log entry 17).
-/
namespace Sys2Proof.Machine

/-- `TERMINATOR` (R7, R78). -/
def terminatorByte : Byte := 0x0D

/-- The bytes of `MAGIC = "Htemp99e"` (R79; the ASCII code points are PRESUMED by the spec, G1; log entry 18). -/
def magic : Bytes8 := ⟨0x48, 0x74, 0x65, 0x6D, 0x70, 0x39, 0x39, 0x65⟩

/-- `ROT` (R7, R79). -/
def rot : Nat := 3

/-- `MAX_TIMEOUT_MS` (R7). -/
def maxTimeoutMs : Int := 2147483647

/-- `DEFAULT_KEY` (R7, R80). -/
def defaultKey : Bytes8 := ⟨0, 0, 0, 0, 0, 0, 0, 0⟩

/-- `DEFAULT_TIMEOUT`: enabled (R7, R22). -/
def defaultTmoEn : Bool := true

/-- `DEFAULT_TIMEOUT`: 5000 ms (R7, R23). -/
def defaultTmoMs : BitVec 31 := 5000

/-- The tag `'A'` (R75). -/
def tagHumidity : Byte := 0x41

/-- The tag `'B'` (R75). -/
def tagTemperature : Byte := 0x42

/-- The tag `'P'` (R75). -/
def tagCo2 : Byte := 0x50

end Sys2Proof.Machine
end

