-- ==== Sys2Proof/Machine/Operands.lean ====
section
/-!
DEFINITION. Every operand form: a packet's value, kind and reading, the packet of a block, the fields of a response word, the
timeout operand, and the codes a host reads.
-/
namespace Sys2Proof.Machine

/-- `value = p[1] * 256 + p[2]` (30_encoding.md R76): the high byte first. -/
def packetValue (p : Packet) : Value := p.valueHi ++ p.valueLo

/-- `KindOf` (30_encoding.md R75, 41_validator.md R135): exact on the byte. -/
def kindOf (tag : Byte) : Kind :=
  if tag = tagHumidity then .humidity
  else if tag = tagTemperature then .temperature
  else if tag = tagCo2 then .co2
  else .unknown

/-- The reading of a packet that passed both checks (R135 to R139). -/
def readingOf (tag : Byte) (value : Value) : Reading :=
  match kindOf tag with
  | .humidity => .humidity value
  | .temperature => .temperature value
  | .co2 => .co2 value
  | .unknown => .unknown tag value

/-- PACKETIZE (41_validator.md R131; 90_conflicts.md C1): bytes 0 to 4 of the cleartext block, on both paths. -/
def packetize (block : Bytes8) : Packet where
  tag        := block.b0
  valueHi    := block.b1
  valueLo    := block.b2
  checksum   := block.b3
  terminator := block.b4

/-- `rsp[71]`, `ERR` (30_encoding.md R85). -/
def rspErrBit (w : BitVec 72) : BitVec 1 := w.extractLsb' 71 1

/-- `rsp[70:68]`, reserved (R85). -/
def rspReservedBits (w : BitVec 72) : BitVec 3 := w.extractLsb' 68 3

/-- `rsp[67:64]`, `COUNT` (R85). -/
def rspCount (w : BitVec 72) : BitVec 4 := w.extractLsb' 64 4

/-- `rsp[63:0]`, `DATA`, byte 0 in bits 63:56 (R85). -/
def rspData (w : BitVec 72) : Bytes8 := bytesView (w.extractLsb' 0 64)

/-- The response word of the four fields (R85). -/
def rspWord (err : BitVec 1) (reserved : BitVec 3) (count : BitVec 4) (data : Bytes8) : BitVec 72 :=
  err ++ reserved ++ count ++ wordView data

/-- The reserved responses (R91): reserved bits set, or `ERR = 0` and `COUNT > 8`. -/
def rspIsReserved (w : BitVec 72) : Bool :=
  rspReservedBits w != 0 || (rspErrBit w == 0 && decide (8 < (rspCount w).toNat))

/-- `tmo_ms[30:0]` (42_accumulator.md R172). -/
def tmoMsField (tmoMs : BitVec 64) : BitVec 31 := tmoMs.extractLsb' 0 31

/-- `ReadTimeoutArg()` (R175): `TMO_MS`, or -1 when no deadline is configured, as 32-bit signed. -/
def readTimeoutArg (tmoEn : Bool) (tmoMs : BitVec 31) : BitVec 32 :=
  if tmoEn then tmoMs.setWidth 32 else -1

/-- The budget `TMO_MS * UPM` in time units (R183). -/
def budgetUnits (tmoMs : BitVec 31) : Nat := tmoMs.toNat * Config.upm

/-- `floor((TMO_MS * UPM - (now - T0)) / UPM)`, the argument of a loop read under `REMAINING` (R175). -/
def remainingMs (tmoMs : BitVec 31) (t0 now : Nat) : Nat := (budgetUnits tmoMs - (now - t0)) / Config.upm

/-- The argument of a loop read (R175, R184) under a policy. -/
def loopTimeoutArg (policy : Config.ReadTimeoutPolicy) (tmoEn : Bool) (tmoMs : BitVec 31) (t0 now : Nat) : BitVec 32 :=
  match policy with
  | .configured => readTimeoutArg tmoEn tmoMs
  | .remaining => if tmoEn then BitVec.ofNat 32 (remainingMs tmoMs t0 now) else -1

/-- The bytes of the feature report the HOST sends at open time (30_encoding.md R81); the CORE neither builds nor sends it. -/
def featureReport (key : Bytes8) : List Byte :=
  [0x00, key.b0, key.b1, key.b2, key.b3, key.b4, key.b5, key.b6, key.b7]

/-- The code of a kind (30_encoding.md R87). -/
def kindCode : Kind → BitVec 2
  | .humidity => 0
  | .temperature => 1
  | .co2 => 2
  | .unknown => 3

/-- The code of a status (30_encoding.md R86). -/
def statusCode : Status → BitVec 3
  | .ok => 0
  | .invalidMessage => 1
  | .checksum => 2
  | .timeout => 3
  | .invalidTimeout => 4
  | .transport => 5

/-- The encoding of `ST` (10_state.md R24). -/
def stateCode : RaState → BitVec 2
  | .idle => 0
  | .busyOne => 1
  | .busyComb => 2

/-- The status a decode failure ends a command with (41_validator.md R132, R133; 42_accumulator.md R179). -/
def errorStatus : DecodeError → Status
  | .invalidMessage => .invalidMessage
  | .checksum => .checksum

end Sys2Proof.Machine
end

