-- ==== Sys2Proof/Machine/Flags.lean ====
section
/-!
DEFINITION. Every flag computation: the terminator matcher, the checksum accumulator, the timeout range check, the completion
check and the timeout comparator.
-/
namespace Sys2Proof.Machine

/-- The terminator matcher (41_validator.md R132): exact. -/
def terminatorMatches (p : Packet) : Bool := p.terminator == terminatorByte

/-- The checksum accumulator (R133): 8 bits wide, wrapping, the terminator not summed. -/
def packetSum (tag valueHi valueLo : Byte) : Byte := tag + valueHi + valueLo

/-- The checksum comparison (R133). -/
def checksumMatches (p : Packet) : Bool := p.checksum == packetSum p.tag p.valueHi p.valueLo

/-- The clear-form test (30_encoding.md R72; 40_decryptor.md R106), made on the raw frame. -/
def isClearForm (f : Bytes8) : Bool := f.b4 == terminatorByte

/-- The range check of CONFIGURE (42_accumulator.md R172): the operand is signed. -/
def timeoutInRange (tmoMs : BitVec 64) : Bool := decide (0 ≤ tmoMs.toInt ∧ tmoMs.toInt ≤ maxTimeoutMs)

/-- The completion check (R182): the pair, when both slots are full. -/
def completedPair (temp co2 : Option Value) : Option (Value × Value) :=
  match temp, co2 with
  | some w, some c => some (w, c)
  | _, _ => none

/-- The timeout comparator (R183): strict, and never when no deadline is configured. -/
def timeoutExceeded (tmoEn : Bool) (tmoMs : BitVec 31) (t0 now : Nat) : Bool :=
  tmoEn && decide (budgetUnits tmoMs < now - t0)

end Sys2Proof.Machine
end

