-- ==== Sys2Proof/Machine/Scaling.lean ====
section
/-!
DEFINITION. The scaled values of a reading: the exact rationals (41_validator.md R140) and their binary32 rendering (R141, R142).
-/
namespace Sys2Proof.Machine

/-- `v / 100` percent relative humidity (R140). -/
def humidityExact (v : Value) : Rat := (v.toNat : Rat) / 100

/-- `v / 16 - 273.15` degrees Celsius (R140). -/
def temperatureExact (v : Value) : Rat := (v.toNat : Rat) / 16 - 27315 / 100

/-- The exact scaled value of a reading (R140, R143); an unknown reading has none. -/
def scaledExact : Reading → Option Rat
  | .humidity v => some (humidityExact v)
  | .temperature v => some (temperatureExact v)
  | .co2 v => some (v.toNat : Rat)
  | .unknown _ _ => none

/-- `2 ^ e` for an integer `e`. -/
def pow2 (e : Int) : Rat := if 0 ≤ e then ((2 ^ e.toNat : Nat) : Rat) else 1 / ((2 ^ (-e).toNat : Nat) : Rat)

/-- The binary32 exponent of a positive rational `n / d`: the `e` with `2 ^ e ≤ n / d < 2 ^ (e + 1)`, but no less than -126
(G2, PRESUMED by the spec: IEEE 754 binary32; log entry 9). -/
def binary32Exponent (n d : Nat) : Int :=
  let a : Int := (n.log2 : Int) - (d.log2 : Int)
  let reached : Bool := if 0 ≤ a then decide (2 ^ a.toNat * d ≤ n) else decide (d ≤ n * 2 ^ (-a).toNat)
  max (if reached then a else a - 1) (-126)

/-- `n / d` rounded to the nearest natural, a tie to the even one (R12). -/
def roundHalfEven (n d : Nat) : Nat :=
  if d < 2 * (n % d) ∨ (2 * (n % d) = d ∧ n / d % 2 = 1) then n / d + 1 else n / d

/-- The 24-bit significand of a nonzero rational's magnitude, rounded, for the exponent `e`. -/
def binary32Significand (n d : Nat) (e : Int) : Nat :=
  if 0 ≤ 23 - e then roundHalfEven (n * 2 ^ (23 - e).toNat) d else roundHalfEven n (d * 2 ^ (e - 23).toNat)

/-- `fl32(x)` (R12): the binary32 value nearest to `x`, ties to the even significand. No value of a 16-bit operand reaches
binary32's overflow, so none is written. -/
def fl32 (x : Rat) : Rat :=
  let e := binary32Exponent x.num.natAbs x.den
  let m : Rat := (binary32Significand x.num.natAbs x.den e : Rat) * pow2 (e - 23)
  if x = 0 then 0 else if x < 0 then -m else m

/-- `bits32(f)` (R12): the pattern of the binary32 value `f`: sign, biased exponent, significand below its leading bit. -/
def bits32 (f : Rat) : BitVec 32 :=
  let e := binary32Exponent f.num.natAbs f.den
  let magnitude : Int := (e + 126) * 2 ^ 23 + (binary32Significand f.num.natAbs f.den e : Int)
  if f = 0 then 0 else BitVec.ofNat 32 ((if f < 0 then 2 ^ 31 else 0) + magnitude.toNat)

/-- The value a finite binary32 pattern stands for (R12): sign, biased exponent, significand. -/
def binary32Value (w : BitVec 32) : Rat :=
  let biased := (w.extractLsb' 23 8).toNat
  let fraction := (w.extractLsb' 0 23).toNat
  let m : Rat := if biased = 0 then (fraction : Rat) * pow2 (-149) else ((2 ^ 23 + fraction : Nat) : Rat) * pow2 (biased - 150)
  if w.extractLsb' 31 1 = 1 then -m else m

/-- The value of `TempF32(v)`: `fl32(fl32(v / 16) - fl32(273.15))` (R141), in the source's order. -/
def tempF32Value (v : Value) : Rat := fl32 (fl32 ((v.toNat : Rat) / 16) - fl32 (27315 / 100))

/-- `TempF32(v)` as a pattern (R141). -/
def tempF32 (v : Value) : BitVec 32 := bits32 (tempF32Value v)

/-- The value of `HumF32(v)`: `fl32(fl32(v) * fl32(0.01))` (R142), in the source's order. -/
def humF32Value (v : Value) : Rat := fl32 (fl32 (v.toNat : Rat) * fl32 (1 / 100))

/-- `HumF32(v)` as a pattern (R142). -/
def humF32 (v : Value) : BitVec 32 := bits32 (humF32Value v)

/-- The binary32 rendering of a reading; CO2 and unknown readings involve no floating point (R143). -/
def scaledF32 : Reading → Option (BitVec 32)
  | .humidity v => some (humF32 v)
  | .temperature v => some (tempF32 v)
  | .co2 _ => none
  | .unknown _ _ => none

end Sys2Proof.Machine
end

