-- ==== Sys2Proof/Machine/State.lean ====
section
/-!
DEFINITION. The state of the CORE: the twelve registers of 10_state.md R20, and the model's own view of the CORE's interfaces.
-/
namespace Sys2Proof.Machine

/-- Why the machine stops with a fault: never. The CORE has no fault state of its own (00_scope.md R13, 60_exceptions.md
R220), so no definition raises one, and the type has no constructor. -/
inductive Fault where
  deriving DecidableEq, Repr

/-- Why a step has no meaning. -/
inductive Refusal where
  /-- Raised by an arm of `exec` whose instruction has no meaning yet. No arm is such. Safe. -/
  | notModelled (mnemonic : String)
  /-- Raised by `execCmdReserved`: a command of opcode `0b11` (30_encoding.md R91, 93 I13). Safe. -/
  | reservedCommand
  /-- Raised by `execRspReserved`: a response with reserved bits set, or with `ERR = 0` and `COUNT > 8` (R91, 93 I15). Safe. -/
  | reservedResponse
  /-- Raised by every response while `ST = IDLE`: no read is outstanding (R91, 93 I14). Safe. -/
  | responseWhileIdle
  deriving DecidableEq, Repr

/-- The machine. The first twelve fields are the spec's registers; the last six are the model's (log entries 2, 3, 4, 10, 12,
24). -/
structure State where
  /-- `KEY` (R21). -/
  key : Bytes8
  /-- `TMO_EN` (R22). -/
  tmoEn : Bool
  /-- `TMO_MS` (R23), 31 bits unsigned. -/
  tmoMs : BitVec 31
  /-- `ST` (R24). -/
  st : RaState
  /-- `T0` (R25), a natural number of time units. -/
  t0 : Nat
  /-- `TEMP_SLOT` (R26). -/
  tempSlot : Option Value
  /-- `CO2_SLOT` (R27). -/
  co2Slot : Option Value
  /-- `RES_VALID` (R28). -/
  resValid : Bool
  /-- `RES_STATUS` (R29). -/
  resStatus : Status
  /-- `RES_SINGLE` (R30): the tag and the value. -/
  resSingle : Option (Byte × Value)
  /-- `RES_COMB` (R31): the temperature word and the CO2 value. -/
  resComb : Option (Value × Value)
  /-- `RES_ERR` (R32). -/
  resErr : Option Config.TransportError
  /-- `T0` has been written since reset (92 D29, 93 I9; log entry 10). -/
  t0Held : Bool
  /-- The value of the time input (42_accumulator.md R188; log entry 4). -/
  now : Nat
  /-- The command the host is presenting and the RA has not accepted (R171; log entry 3). -/
  cmdPort : Option CmdWord
  /-- The moves of host, transport and time source still to come, the next one first (R170, R195; log entry 2). -/
  inputs : List Input
  /-- What the surroundings do once those moves are over (R185, R193; log entry 24). -/
  after : Afterwards
  /-- What the CORE has put on its outputs, the latest first (R84, D2; log entry 12). -/
  emitted : List Emission
  deriving DecidableEq, Repr

/-- The machine right after reset (70_reset_and_hazards.md R250). `t0`, `resStatus`, `resSingle`, `resComb` and `resErr` have no
value there by the spec; the ones here are the model's (DESIGN CHOICE, unsafe, log entry 10) and no host read shows them. -/
def State.reset : State where
  key := defaultKey
  tmoEn := defaultTmoEn
  tmoMs := defaultTmoMs
  st := .idle
  t0 := 0
  tempSlot := none
  co2Slot := none
  resValid := false
  resStatus := .ok
  resSingle := none
  resComb := none
  resErr := none
  t0Held := false
  now := 0
  cmdPort := none
  inputs := []
  after := .silent
  emitted := []

end Sys2Proof.Machine
end

