-- ==== Sys2Proof/Machine/Ops.lean ====
section
/-!
DEFINITION. The operations every meaning is written over: the end of a command, the hold, the refusal of a response while idle,
the emission of a request, the draw of the time input, reset, and what the host reads.
-/
namespace Sys2Proof.Machine

/-- The CORE's form of taking an exception, and of a successful end: `finish` (42_accumulator.md R186; 60_exceptions.md R229). -/
def finish (status : Status) (single : Option (Byte × Value)) (comb : Option (Value × Value))
    (err : Option Config.TransportError) (s : State) : State :=
  { s with st := .idle, resValid := true, resStatus := status, resSingle := single, resComb := comb, resErr := err }

/-- `set_result` (R172, R189): the end of a CONFIGURE, which leaves `ST` as it is. -/
def setResult (status : Status) (s : State) : State :=
  { s with resValid := true, resStatus := status, resSingle := none, resComb := none, resErr := none }

/-- Put something on an output. -/
def emit (e : Emission) (s : State) : State := { s with emitted := e :: s.emitted }

/-- `emit Req(t)` (R84). -/
def emitRequest (t : BitVec 32) (s : State) : State := emit (.request t) s

/-- Command acceptance (R171): `k` in IDLE, and in a busy state a hold, which changes nothing. This is also how the CORE comes
back from an error: nothing but the next acceptance follows `finish` (60_exceptions.md R230). -/
def whenIdle (s : State) (k : State → State) : Host.Outcome State Fault Refusal :=
  if s.st = .idle then .next (k s) else .next s

/-- A response is taken only while a read is outstanding (10_state.md R24; 30_encoding.md R91). -/
def whenBusy (s : State) (k : State → State) : Host.Outcome State Fault Refusal :=
  if s.st = .idle then .refused .responseWhileIdle else .next (k s)

/-- `draw now` (R188): the value on the time input. -/
def drawNow (s : State) : Nat := s.now

/-- The time input takes a new value (R188; log entry 4): within a READ_COMBINED it never falls. -/
def advanceTime (t : Nat) (s : State) : State :=
  { s with now := if s.st = .busyComb then max s.now t else t }

/-- The first entry of the schedule has been taken. -/
def popInput (rest : List Input) (s : State) : State := { s with inputs := rest }

/-- What stands on the command port once the RA has seen `c` there: nothing if it accepts, `c` still if it holds (R171; log
entry 3). -/
def settlePort (c : CmdWord) (s : State) : State :=
  { s with cmdPort := if s.st = .idle then none else some c }

/-- The host withdraws its command (R171). -/
def withdrawCommand (s : State) : State := { s with cmdPort := none }

/-- The reset input (70_reset_and_hazards.md R250): every register at its reset value. An outstanding read is abandoned and
nothing is emitted; what lies outside the CORE stays (log entry 11). -/
def resetRegisters (s : State) : State :=
  { State.reset with now := s.now, cmdPort := s.cmdPort, inputs := s.inputs, after := s.after, emitted := s.emitted }

/-- A host read of `ST` (10_state.md R24). -/
def hostState (s : State) : RaState := s.st

/-- A host read of `RES_VALID` (10_state.md R20, R28), possible at any time. -/
def hostValid (s : State) : Bool := s.resValid

/-- A host read of `RES_STATUS`: nothing while `RES_VALID = 0` (R28, R29). -/
def hostStatus (s : State) : Option Status := if s.resValid then some s.resStatus else none

/-- A host read of `RES_SINGLE`: nothing while `RES_VALID = 0` (R28, R30). -/
def hostSingle (s : State) : Option (Option (Byte × Value)) := if s.resValid then some s.resSingle else none

/-- A host read of `RES_COMB`: nothing while `RES_VALID = 0` (R28, R31). -/
def hostComb (s : State) : Option (Option (Value × Value)) := if s.resValid then some s.resComb else none

/-- A host read of `RES_ERR`: nothing while `RES_VALID = 0` (R28, R32). -/
def hostErr (s : State) : Option (Option Config.TransportError) := if s.resValid then some s.resErr else none

/-- `T0` as a claim may read it: nothing before a READ_COMBINED has written it (R25, D29, 93 I9). -/
def readT0 (s : State) : Option Nat := if s.t0Held then some s.t0 else none

/-- The reading in `RES_SINGLE` (R30, R33), where the host may read one. -/
def singleReading (s : State) : Option Reading :=
  match hostSingle s with
  | some (some (tag, value)) => some (readingOf tag value)
  | _ => none

/-- The kind code of the reading in `RES_SINGLE` (R30, R87). -/
def singleKindCode (s : State) : Option (BitVec 2) :=
  match hostSingle s with
  | some (some (tag, _)) => some (kindCode (kindOf tag))
  | _ => none

/-- `res_single_real` (R33). -/
def resSingleReal (s : State) : Option Rat := (singleReading s).bind scaledExact

/-- `res_single_f32` (R33). -/
def resSingleF32 (s : State) : Option (BitVec 32) := (singleReading s).bind scaledF32

/-- `res_comb_temp_f32` (R31, R33). -/
def resCombTempF32 (s : State) : Option (BitVec 32) :=
  match hostComb s with
  | some (some (w, _)) => some (tempF32 w)
  | _ => none

end Sys2Proof.Machine
end

