-- ==== Sys2Proof/Machine/Commands.lean ====
section
/-!
DEFINITION. The meanings of the rows of format cmd (42_accumulator.md R171 to R174).
-/
namespace Sys2Proof.Machine

/-- What an accepted CONFIGURE writes (R172). -/
def configureState (key : Bytes8) (tmoEn : Bool) (tmoMs : BitVec 64) (s : State) : State :=
  if tmoEn && !timeoutInRange tmoMs then setResult .invalidTimeout s
  else setResult .ok { s with key := key, tmoEn := tmoEn, tmoMs := if tmoEn then tmoMsField tmoMs else s.tmoMs }

/-- What an accepted READ_ONE writes and emits (R173). -/
def startReadOne (s : State) : State :=
  emitRequest (readTimeoutArg s.tmoEn s.tmoMs) { s with st := .busyOne, resValid := false }

/-- What an accepted READ_COMBINED writes and emits (R174). -/
def startReadCombined (s : State) : State :=
  emitRequest (readTimeoutArg s.tmoEn s.tmoMs)
    { s with
      st := .busyComb, tempSlot := none, co2Slot := none, t0 := drawNow s, t0Held := true, resValid := false }

/-- CONFIGURE (R172), held while busy (R171). -/
def execConfigure (key : Bytes8) (tmoEn : Bool) (tmoMs : BitVec 64) (s : State) : Host.Outcome State Fault Refusal :=
  whenIdle s (configureState key tmoEn tmoMs)

/-- READ_ONE (R173), held while busy (R171). -/
def execReadOne (s : State) : Host.Outcome State Fault Refusal := whenIdle s startReadOne

/-- READ_COMBINED (R174), held while busy (R171). -/
def execReadCombined (s : State) : Host.Outcome State Fault Refusal := whenIdle s startReadCombined

/-- A command of opcode `0b11` is refused whatever `ST` is (30_encoding.md R91; 93 I13). -/
def execCmdReserved (_ : State) : Host.Outcome State Fault Refusal := .refused .reservedCommand

end Sys2Proof.Machine
end

