-- ==== Sys2Proof/Machine/Decryptor.lean ====
section
/-!
DEFINITION. The Frame Decryptor's four stages, DECRYPT and SELECT_BLOCK (40_decryptor.md), and ENCRYPT, which the CORE does not have.
-/
namespace Sys2Proof.Machine

/-- `MASK` (30_encoding.md R79): every magic byte nibble-swapped. -/
def mask : Bytes8 := mapBytes nibbleSwap magic

/-- PERMUTE (R101): the swaps (0,2), (1,4), (3,7), (5,6). -/
def permuteBytes (f : Bytes8) : Bytes8 := ⟨f.b2, f.b4, f.b0, f.b7, f.b1, f.b6, f.b5, f.b3⟩

/-- XOR_KEY (R102): position by position, after the permutation. -/
def xorKeyBytes (q key : Bytes8) : Bytes8 := zipBytes (· ^^^ ·) q key

/-- ROTR3 (R103; 90_conflicts.md C3): the 64-bit word view rotated right by 3. -/
def rotr3Bytes (x : Bytes8) : Bytes8 := bytesView ((wordView x).rotateRight rot)

/-- SUB_MASK (R104): 8-bit wrapping subtraction of the mask. -/
def subMaskBytes (r : Bytes8) : Bytes8 := zipBytes (· - ·) r mask

/-- DECRYPT (R100, R105): the four stages in order. -/
def decryptBytes (f key : Bytes8) : Bytes8 := subMaskBytes (rotr3Bytes (xorKeyBytes (permuteBytes f) key))

/-- SELECT_BLOCK (R106): the test reads the raw frame, and the clear path does not decrypt. -/
def selectBlock (f key : Bytes8) : Bytes8 := if isClearForm f then f else decryptBytes f key

/-- `ADD_MASK` (R108). -/
def addMaskBytes (c : Bytes8) : Bytes8 := zipBytes (· + ·) c mask

/-- `ROTL3` (R108). -/
def rotl3Bytes (x : Bytes8) : Bytes8 := bytesView ((wordView x).rotateLeft rot)

/-- ENCRYPT (R108), the inverse of DECRYPT; it builds test frames, and the CORE does not implement it. -/
def encryptBytes (c key : Bytes8) : Bytes8 := permuteBytes (xorKeyBytes (rotl3Bytes (addMaskBytes c)) key)

end Sys2Proof.Machine
end

