-- ==== Sys2Proof/Machine/Validator.lean ====
section
/-!
DEFINITION. The Packet Validator: DECODE (41_validator.md R130 to R139).
-/
namespace Sys2Proof.Machine

/-- DECODE (R130): the terminator first, then the checksum (R134), then the kind (R135). -/
def decodePacketBytes (p : Packet) : DecodeResult :=
  if terminatorMatches p then
    if checksumMatches p then .ok (readingOf p.tag (packetValue p))
    else .err .checksum
  else .err .invalidMessage

end Sys2Proof.Machine
end

