-- ==== Sys2Proof/Machine/Evaluations.lean ====
section
/-!
DEFINITION. The meanings of the rows of formats frame, fd and packet, evaluated by themselves (92 D2): no register changes (10_state.md
R37, 41_validator.md R144), and the result is put on the unit's output (log entry 12).
-/
namespace Sys2Proof.Machine

/-- A unit's output appears, and nothing else changes. -/
def evaluate (e : Emission) (s : State) : Host.Outcome State Fault Refusal := .next (emit e s)

/-- FRAME_CLEAR (40_decryptor.md R106): the block is the frame, and the key is not read. -/
def execFrameClear (f : Bytes8) (s : State) : Host.Outcome State Fault Refusal := evaluate (.selected f) s

/-- FRAME_ENCRYPTED (R106): the block is `DECRYPT(f, KEY)`. -/
def execFrameEncrypted (f : Bytes8) (s : State) : Host.Outcome State Fault Refusal :=
  evaluate (.selected (decryptBytes f s.key)) s

/-- PERMUTE (R101). -/
def execPermute (x : Bytes8) (s : State) : Host.Outcome State Fault Refusal :=
  evaluate (.fdOutput .permute (permuteBytes x)) s

/-- XOR_KEY (R102). -/
def execXorKey (x key : Bytes8) (s : State) : Host.Outcome State Fault Refusal :=
  evaluate (.fdOutput .xorKey (xorKeyBytes x key)) s

/-- ROTR3 (R103). -/
def execRotr3 (x : Bytes8) (s : State) : Host.Outcome State Fault Refusal :=
  evaluate (.fdOutput .rotr3 (rotr3Bytes x)) s

/-- SUB_MASK (R104). -/
def execSubMask (x : Bytes8) (s : State) : Host.Outcome State Fault Refusal :=
  evaluate (.fdOutput .subMask (subMaskBytes x)) s

/-- DECRYPT (R100, R105). -/
def execDecrypt (x key : Bytes8) (s : State) : Host.Outcome State Fault Refusal :=
  evaluate (.fdOutput .decrypt (decryptBytes x key)) s

/-- PKT_INVALID_MESSAGE (41_validator.md R132). -/
def execPktInvalidMessage (_p : Packet) (s : State) : Host.Outcome State Fault Refusal :=
  evaluate (.decoded (.err .invalidMessage)) s

/-- PKT_CHECKSUM (R133). -/
def execPktChecksum (_p : Packet) (s : State) : Host.Outcome State Fault Refusal :=
  evaluate (.decoded (.err .checksum)) s

/-- PKT_HUMIDITY (R136). -/
def execPktHumidity (value : Value) (s : State) : Host.Outcome State Fault Refusal :=
  evaluate (.decoded (.ok (.humidity value))) s

/-- PKT_TEMPERATURE (R137). -/
def execPktTemperature (value : Value) (s : State) : Host.Outcome State Fault Refusal :=
  evaluate (.decoded (.ok (.temperature value))) s

/-- PKT_CO2 (R138). -/
def execPktCo2 (value : Value) (s : State) : Host.Outcome State Fault Refusal :=
  evaluate (.decoded (.ok (.co2 value))) s

/-- PKT_UNKNOWN (R139): the tag is kept. -/
def execPktUnknown (tag : Byte) (value : Value) (s : State) : Host.Outcome State Fault Refusal :=
  evaluate (.decoded (.ok (.unknown tag value))) s

end Sys2Proof.Machine
end

