-- ==== Sys2Proof/Machine/Responses.lean ====
section
/-!
DEFINITION. The meanings of the rows of format rsp: the single-read loop, the slot tracker and the comparator (42_accumulator.md
R176 to R185).
-/
namespace Sys2Proof.Machine

/-- Slot update (R181): the latest reading of a kind wins; the other kinds change nothing. -/
def updateSlots (r : Reading) (s : State) : State :=
  match r with
  | .temperature v => { s with tempSlot := some v }
  | .co2 v => { s with co2Slot := some v }
  | .humidity _ => s
  | .unknown _ _ => s

/-- Loop continuation (R184): the next request, and nothing else. -/
def continueLoop (s : State) : State :=
  emitRequest (loopTimeoutArg Config.readTimeoutPolicy s.tmoEn s.tmoMs s.t0 (drawNow s)) s

/-- After a slot update: completion before the deadline, the deadline before the loop (R182, R183, R184; 60_exceptions.md R228). -/
def settleCombined (s : State) : State :=
  match completedPair s.tempSlot s.co2Slot with
  | some pair => finish .ok none (some pair) none s
  | none =>
    if timeoutExceeded s.tmoEn s.tmoMs s.t0 (drawNow s) then finish .timeout none none none s
    else continueLoop s

/-- A successful decode (R180 to R184): in BUSY_ONE it ends the command, in BUSY_COMB the loop goes on with it. -/
def takeReading (p : Packet) (r : Reading) (s : State) : State :=
  if s.st = .busyOne then finish .ok (some (p.tag, packetValue p)) none none s
  else settleCombined (updateSlots r s)

/-- The packet of a full frame (R178): SELECT_BLOCK on the raw frame with `KEY`, then bytes 0 to 4. -/
def framePacket (f key : Bytes8) : Packet := packetize (selectBlock f key)

/-- A full frame (R178 to R184): a decode failure ends the command at once (R179). -/
def takeFrame (f : Bytes8) (s : State) : State :=
  match decodePacketBytes (framePacket f s.key) with
  | .err d => finish (errorStatus d) none none none s
  | .ok r => takeReading (framePacket f s.key) r s

/-- RSP_ERROR (R176): the error value is passed on unchanged; `COUNT` and `DATA` are not read. -/
def execRspError (e : Config.TransportError) (_count : BitVec 4) (_data : Bytes8) (s : State) :
    Host.Outcome State Fault Refusal :=
  whenBusy s (finish .transport none none (some e))

/-- RSP_SHORT (R177): no byte is read. -/
def execRspShort (_count : BitVec 4) (_data : Bytes8) (s : State) : Host.Outcome State Fault Refusal :=
  whenBusy s (finish .invalidMessage none none none)

/-- RSP_FRAME (R178). -/
def execRspFrame (data : Bytes8) (s : State) : Host.Outcome State Fault Refusal := whenBusy s (takeFrame data)

/-- A reserved response is refused (30_encoding.md R91; 93 I14, I15), by the name of the check R189 makes first. -/
def execRspReserved (_w : BitVec 72) (_e : Config.TransportError) (s : State) : Host.Outcome State Fault Refusal :=
  if s.st = .idle then .refused .responseWhileIdle else .refused .reservedResponse

end Sys2Proof.Machine
end

