-- ==== Sys2Proof/Syntax.lean ====
section
/-!
DEFINITION. The rows of spec/opcode_table.json, one constructor each, with the operands the row's rule names.
-/
namespace Sys2Proof

/-- One outcome of one input format (30_encoding.md R70, R89). -/
inductive Instr where
  /-- CONFIGURE (R172): the new key, deadline enable and timeout operand. -/
  | configure (key : Bytes8) (tmoEn : Bool) (tmoMs : BitVec 64)
  /-- READ_ONE (R173). -/
  | readOne
  /-- READ_COMBINED (R174). -/
  | readCombined
  /-- `op = 0b11` (R91). -/
  | cmdReserved
  /-- A transport error (R176); `COUNT` and `DATA` are don't-care (R85). -/
  | rspError (e : Config.TransportError) (count : BitVec 4) (data : Bytes8)
  /-- A short read of `count` bytes (R177); its bytes are never read. -/
  | rspShort (count : BitVec 4) (data : Bytes8)
  /-- A full frame (R178). -/
  | rspFrame (data : Bytes8)
  /-- A response with reserved bits set, or with `ERR = 0` and `COUNT > 8` (R91). -/
  | rspReserved (w : BitVec 72) (e : Config.TransportError)
  /-- A raw frame in clear form (R72, R106). -/
  | frameClear (f : Bytes8)
  /-- A raw frame in encrypted form (R72, R106). -/
  | frameEncrypted (f : Bytes8)
  /-- Stage 1 of the FD (R101). -/
  | permute (x : Bytes8)
  /-- Stage 2 of the FD (R102). -/
  | xorKey (x : Bytes8) (key : Bytes8)
  /-- Stage 3 of the FD (R103). -/
  | rotr3 (x : Bytes8)
  /-- Stage 4 of the FD (R104). -/
  | subMask (x : Bytes8)
  /-- The whole FD (R105). -/
  | decrypt (x : Bytes8) (key : Bytes8)
  /-- A packet with a wrong terminator (R132). -/
  | pktInvalidMessage (p : Packet)
  /-- A packet with the terminator and a wrong checksum (R133). -/
  | pktChecksum (p : Packet)
  /-- A valid packet of tag `0x41` (R136). -/
  | pktHumidity (value : Value)
  /-- A valid packet of tag `0x42` (R137). -/
  | pktTemperature (value : Value)
  /-- A valid packet of tag `0x50` (R138). -/
  | pktCo2 (value : Value)
  /-- A valid packet of any other tag (R139). -/
  | pktUnknown (tag : Byte) (value : Value)
  deriving DecidableEq, Repr

end Sys2Proof
end

