-- ==== Sys2Proof/Machine/Dispatch.lean ====
section
/-!
DEFINITION. exec: one arm per row of spec/opcode_table.json.
-/
namespace Sys2Proof.Machine

def exec (i : Instr) (s : State) : Host.Outcome State Fault Refusal :=
  match i with
  | .configure key tmoEn tmoMs => Sys2Proof.Machine.execConfigure key tmoEn tmoMs s
  | .readOne => Sys2Proof.Machine.execReadOne s
  | .readCombined => Sys2Proof.Machine.execReadCombined s
  | .cmdReserved => Sys2Proof.Machine.execCmdReserved s
  | .rspError e count data => Sys2Proof.Machine.execRspError e count data s
  | .rspShort count data => Sys2Proof.Machine.execRspShort count data s
  | .rspFrame data => Sys2Proof.Machine.execRspFrame data s
  | .rspReserved w e => Sys2Proof.Machine.execRspReserved w e s
  | .frameClear f => Sys2Proof.Machine.execFrameClear f s
  | .frameEncrypted f => Sys2Proof.Machine.execFrameEncrypted f s
  | .permute x => Sys2Proof.Machine.execPermute x s
  | .xorKey x key => Sys2Proof.Machine.execXorKey x key s
  | .rotr3 x => Sys2Proof.Machine.execRotr3 x s
  | .subMask x => Sys2Proof.Machine.execSubMask x s
  | .decrypt x key => Sys2Proof.Machine.execDecrypt x key s
  | .pktInvalidMessage p => Sys2Proof.Machine.execPktInvalidMessage p s
  | .pktChecksum p => Sys2Proof.Machine.execPktChecksum p s
  | .pktHumidity value => Sys2Proof.Machine.execPktHumidity value s
  | .pktTemperature value => Sys2Proof.Machine.execPktTemperature value s
  | .pktCo2 value => Sys2Proof.Machine.execPktCo2 value s
  | .pktUnknown tag value => Sys2Proof.Machine.execPktUnknown tag value s

end Sys2Proof.Machine
end

