-- ==== Sys2Proof/WellFormed.lean ====
section
/-!
DEFINITION. The conditions of spec/opcode_table.json's rows on their operands (30_encoding.md R89).
-/
namespace Sys2Proof

open Sys2Proof.Machine

/-- The operands of an instruction are ones its row admits. -/
def Instr.wf : Instr → Bool
  | .configure _ _ _ => true
  | .readOne => true
  | .readCombined => true
  | .cmdReserved => true
  | .rspError _ _ _ => true
  | .rspShort count _ => decide (count.toNat < 8)
  | .rspFrame _ => true
  | .rspReserved w _ => rspIsReserved w
  | .frameClear f => isClearForm f
  | .frameEncrypted f => !isClearForm f
  | .permute _ => true
  | .xorKey _ _ => true
  | .rotr3 _ => true
  | .subMask _ => true
  | .decrypt _ _ => true
  | .pktInvalidMessage p => !terminatorMatches p
  | .pktChecksum p => terminatorMatches p && !checksumMatches p
  | .pktHumidity _ => true
  | .pktTemperature _ => true
  | .pktCo2 _ => true
  | .pktUnknown tag _ => kindOf tag == .unknown

/-- An instruction as the decoder may give it. -/
abbrev Instr.WellFormed (i : Instr) : Prop := i.wf = true

end Sys2Proof
end

