-- ==== Sys2Proof/Decode.lean ====
section
/-!
DEFINITION. The decoder and the encoder of the five input formats (30_encoding.md), and the opcode table's own numbering of words.
Every raw word decodes: the reserved ones to a constructor of their own (R91), none to a neighbour.
-/
namespace Sys2Proof

open Sys2Proof.Machine

/-- Format cmd (R82, R83): the opcode decides, and only CONFIGURE reads the other fields. -/
def decodeCmd (c : CmdWord) : Instr :=
  if c.op = 0b00 then .configure (bytesView c.key) (c.tmoEn == 1) c.tmoMs
  else if c.op = 0b01 then .readOne
  else if c.op = 0b10 then .readCombined
  else .cmdReserved

/-- Format rsp (R85, R91). -/
def decodeRsp (w : BitVec 72) (e : Config.TransportError) : Instr :=
  if rspIsReserved w then .rspReserved w e
  else if rspErrBit w = 1 then .rspError e (rspCount w) (rspData w)
  else if (rspCount w).toNat < 8 then .rspShort (rspCount w) (rspData w)
  else .rspFrame (rspData w)

/-- Format frame (R72): byte 4 alone decides. -/
def decodeFrame (w : BitVec 64) : Instr :=
  if isClearForm (bytesView w) then .frameClear (bytesView w) else .frameEncrypted (bytesView w)

/-- Format fd (R89): the row is chosen by its position; only XOR_KEY and DECRYPT take the key. -/
def decodeFd (row : FdRow) (x key : BitVec 64) : Instr :=
  match row with
  | .permute => .permute (bytesView x)
  | .xorKey => .xorKey (bytesView x) (bytesView key)
  | .rotr3 => .rotr3 (bytesView x)
  | .subMask => .subMask (bytesView x)
  | .decrypt => .decrypt (bytesView x) (bytesView key)

/-- Format packet (R74 to R78, R145): the terminator, then the checksum, then the tag. -/
def decodePacket (p : Packet) : Instr :=
  if terminatorMatches p then
    if checksumMatches p then
      match kindOf p.tag with
      | .humidity => .pktHumidity (packetValue p)
      | .temperature => .pktTemperature (packetValue p)
      | .co2 => .pktCo2 (packetValue p)
      | .unknown => .pktUnknown p.tag (packetValue p)
    else .pktChecksum p
  else .pktInvalidMessage p

/-- The decoder: total on every raw word. -/
def decode : RawWord → Instr
  | .cmd c => decodeCmd c
  | .rsp w e => decodeRsp w e
  | .frame w => decodeFrame w
  | .fd row x key => decodeFd row x key
  | .packet w => decodePacket (packetOfWord w)

/-- A valid packet of a tag and a value (R74, R77, R78). -/
def validPacket (tag : Byte) (value : Value) : Packet where
  tag        := tag
  valueHi    := value.extractLsb' 8 8
  valueLo    := value.extractLsb' 0 8
  checksum   := packetSum tag (value.extractLsb' 8 8) (value.extractLsb' 0 8)
  terminator := terminatorByte

/-- A command without operands; its don't-care fields are 0 (R82). -/
def bareCmd (op : BitVec 2) : CmdWord := ⟨op, 0, 0, 0⟩

/-- The error value written beside a response that carries none (R85: it means nothing there). -/
def noError : Config.TransportError := default

/-- The encoder: the raw word of a well-formed instruction. -/
def encode : Instr → RawWord
  | .configure key tmoEn tmoMs => .cmd ⟨0b00, wordView key, BitVec.ofBool tmoEn, tmoMs⟩
  | .readOne => .cmd (bareCmd 0b01)
  | .readCombined => .cmd (bareCmd 0b10)
  | .cmdReserved => .cmd (bareCmd 0b11)
  | .rspError e count data => .rsp (rspWord 1 0 count data) e
  | .rspShort count data => .rsp (rspWord 0 0 count data) noError
  | .rspFrame data => .rsp (rspWord 0 0 8 data) noError
  | .rspReserved w e => .rsp w e
  | .frameClear f => .frame (wordView f)
  | .frameEncrypted f => .frame (wordView f)
  | .permute x => .fd .permute (wordView x) 0
  | .xorKey x key => .fd .xorKey (wordView x) (wordView key)
  | .rotr3 x => .fd .rotr3 (wordView x) 0
  | .subMask x => .fd .subMask (wordView x) 0
  | .decrypt x key => .fd .decrypt (wordView x) (wordView key)
  | .pktInvalidMessage p => .packet (packetWord p)
  | .pktChecksum p => .packet (packetWord p)
  | .pktHumidity value => .packet (packetWord (validPacket tagHumidity value))
  | .pktTemperature value => .packet (packetWord (validPacket tagTemperature value))
  | .pktCo2 value => .packet (packetWord (validPacket tagCo2 value))
  | .pktUnknown tag value => .packet (packetWord (validPacket tag value))

/-- The raw word of an opcode-table row's word: its width says the format (log entry 15). An fd row gives its words no bits, so
no bits stand for the first fd row on zeros; a width of no format gives nothing. -/
def tableRaw (nbits w : Nat) : Option RawWord :=
  if nbits = 0 then some (.fd .permute 0 0)
  else if nbits ≤ 8 then some (.cmd (bareCmd (BitVec.ofNat 2 w)))
  else if nbits = 40 then some (.packet (BitVec.ofNat 40 w))
  else if nbits = 64 then some (.frame (BitVec.ofNat 64 w))
  else if nbits = 72 then some (.rsp (BitVec.ofNat 72 w) noError)
  else none

/-- The instruction the decoder reads from an opcode-table word. -/
def decodeTableWord (nbits w : Nat) : Option Instr := (tableRaw nbits w).map decode

end Sys2Proof
end

