-- ==== Sys2Proof/Machine/Fetch.lean ====
section
/-!
DEFINITION. Where the CORE gets its next raw word (42_accumulator.md R170, R171, R195), and how an opcode-table word is put there.
-/
namespace Sys2Proof.Machine

/-- The host's port is looked at: a command still presented is presented again (R171). -/
def pollPort (s : State) : Option RawWord × State :=
  match s.cmdPort with
  | none => (none, s)
  | some c => (some (.cmd c), settlePort c s)

/-- A raw word arrives. A command goes to the host's port, where it stays while it is held (R171). -/
def receiveWord (w : RawWord) (s : State) : Option RawWord × State :=
  match w with
  | .cmd c => (some w, settlePort c s)
  | _ => (some w, s)

/-- The surroundings' next move, taken off the schedule: the first listed one, or what comes after the list (log entry 24); none
where they never move again. -/
def nextMove (s : State) : Option (Input × State) :=
  match s.inputs, s.after with
  | m :: rest, _ => some (m, popInput rest s)
  | [], .silent => none
  | [], .repeated [] => none
  | [], .repeated (m :: rest) => some (m, popInput rest s)
  | [], .free n => some (Config.freeMove n, popInput [] { s with after := .free (n + 1) })

/-- A move made: the raw word it brings, if any, and the state in which that word is met. -/
def makeMove (m : Input) (s : State) : Option RawWord × State :=
  match m with
  | .word w t => receiveWord w (advanceTime t s)
  | .tick t => pollPort (advanceTime t s)
  | .withdraw => (none, withdrawCommand s)
  | .reset => (none, resetRegisters s)

/-- The raw word the CORE meets next, if any, and the state in which it is met. Where the surroundings never move again, time
stands still and only a command still presented can be met. -/
def fetch (s : State) : Option RawWord × State :=
  match nextMove s with
  | none => pollPort s
  | some (m, t) => makeMove m t

/-- A response is taken only while a read is outstanding (R24), so placing one places the read of a READ_ONE where the RA is
idle; no other word needs anything (log entry 15). -/
def prepareFor (w : RawWord) (s : State) : State :=
  match w with
  | .rsp _ _ => if s.st = .idle then { s with st := .busyOne, resValid := false } else s
  | _ => s

/-- A raw word placed as the very next move, at the time the time input shows. -/
def placeWord (w : RawWord) (s : State) : State :=
  { prepareFor w s with inputs := .word w s.now :: s.inputs }

end Sys2Proof.Machine
end

