-- ==== Sys2Proof/Machine/Step.lean ====
section
/-!
DEFINITION. One step of the machine: the surroundings move, and the RA answers what arrives.
-/
namespace Sys2Proof.Machine

/-- One move of the surroundings and the RA's answer to it. Where the move brings no word, the state after it is the next one:
the RA waits (42_accumulator.md R193). -/
def step (s : State) : Host.Outcome State Fault Refusal :=
  match fetch s with
  | (none, t) => .next t
  | (some w, t) => exec (decode w) t

/-- `s` with the instruction of an opcode-table word as the next one that `step` meets. -/
def State.withFetchWord (s : State) (nbits w : Nat) : State :=
  match tableRaw nbits w with
  | none => s
  | some r => placeWord r s

end Sys2Proof.Machine
end

