-- ==== Sys2Proof/Safety.lean ====
section
/-!
DEFINITION. What claims are stated in: the invariant of the CORE, the readings of a READ_COMBINED and its schedules, and the rows
of the opcode table as data.
-/
namespace Sys2Proof.Safety

open Sys2Proof.Machine

/-- What holds of the CORE after reset and after every step. The clauses single_ok, comb_ok and err_transport read the result
registers while RES_VALID = 0 too, where the spec gives them no value (R250, D29): there they rest on the model's choice (log entries
10 and 11). -/
structure CoreInv (s : State) : Prop where
  /-- While a command is in progress no result can be read (R28, R173, R174). -/
  busy_unreadable : s.st ≠ .idle → s.resValid = false
  /-- A READ_COMBINED in progress has its origin, and the time input is not before it (R174, R188). -/
  comb_origin : s.st = .busyComb → s.t0Held = true ∧ s.t0 ≤ s.now
  /-- A READ_COMBINED in progress has an empty slot: it ends when the second one fills (R182). -/
  comb_open : s.st = .busyComb → s.tempSlot = none ∨ s.co2Slot = none
  /-- A single result comes with OK (R30). -/
  single_ok : s.resSingle.isSome → s.resStatus = .ok
  /-- A combined result comes with OK and without a single one (R30, R31). -/
  comb_ok : s.resComb.isSome → s.resStatus = .ok ∧ s.resSingle = none
  /-- An error value is there exactly with TRANSPORT (R32). -/
  err_transport : s.resErr.isSome ↔ s.resStatus = .transport
  /-- A readable combined result is what the slots hold (R182, R186). -/
  comb_slots : ∀ w c, s.resValid = true → s.resComb = some (w, c) → s.tempSlot = some w ∧ s.co2Slot = some c
  /-- Every request carries -1 or a non-negative number of milliseconds (R84, R175). -/
  requests_legal : ∀ t, Emission.request t ∈ s.emitted → -1 ≤ t.toInt

/-- The value of a Temperature reading. -/
def temperatureOf : Reading → Option Value
  | .temperature v => some v
  | _ => none

/-- The value of a CO2 reading. -/
def co2Of : Reading → Option Value
  | .co2 v => some v
  | _ => none

/-- The most recent Temperature among readings, the oldest first (R181, R191). -/
def lastTemperature (rs : List Reading) : Option Value := rs.reverse.findSome? temperatureOf

/-- The most recent CO2 among readings, the oldest first (R181, R191). -/
def lastCo2 (rs : List Reading) : Option Value := rs.reverse.findSome? co2Of

/-- What the PV answers for a full frame under a key (R178). -/
def frameResult (key f : Bytes8) : DecodeResult :=
  decodePacketBytes (packetize (if f.b4 = 0x0D then f else decryptBytes f key))

/-- A full frame delivered when the time input shows a value. -/
def frameInput (f : Bytes8 × Nat) : Input := .word (encode (.rspFrame f.1)) f.2

/-- The instruction with its error value, if it has one, replaced (R32, R85). -/
def renameError (g : Config.TransportError → Config.TransportError) : Instr → Instr
  | .rspError e count data => .rspError (g e) count data
  | .rspReserved w e => .rspReserved w (g e)
  | i => i

/-- The state with the error value it holds, if it holds one, replaced (R32). -/
def renameHeldError (g : Config.TransportError → Config.TransportError) (s : State) : State :=
  { s with resErr := s.resErr.map g }

/-- An instruction of format rsp. -/
def isResponse : Instr → Bool
  | .rspError _ _ _ | .rspShort _ _ | .rspFrame _ | .rspReserved _ _ => true
  | _ => false

/-- An instruction of format frame, fd or packet. -/
def isEvaluation : Instr → Bool
  | .frameClear _ | .frameEncrypted _ | .permute _ | .xorKey _ _ | .rotr3 _ | .subMask _ | .decrypt _ _ => true
  | .pktInvalidMessage _ | .pktChecksum _ | .pktHumidity _ | .pktTemperature _ | .pktCo2 _ | .pktUnknown _ _ => true
  | _ => false

/-- A response step that ends the command in progress (R186, R194). -/
abbrev Ends (s t : State) : Prop := s.st ≠ .idle ∧ t.st = .idle

/-- The rows of format packet, in the table's order (R89, R145): match, mask and condition of spec/opcode_table.json, and what
decoding to the row means. -/
structure PacketRow where
  bits   : BitVec 40
  mask   : BitVec 40
  cond   : Packet → Bool
  isRow  : Instr → Bool

/-- The six rows of format packet. -/
def packetRows : List PacketRow :=
  [ ⟨0x0000000000, 0x0000000000, fun p => p.terminator != 0x0D, fun i => i matches .pktInvalidMessage _⟩,
    ⟨0x000000000D, 0x00000000FF, fun p => p.checksum != p.tag + p.valueHi + p.valueLo, fun i => i matches .pktChecksum _⟩,
    ⟨0x410000000D, 0xFF000000FF, fun p => p.checksum == p.tag + p.valueHi + p.valueLo, fun i => i matches .pktHumidity _⟩,
    ⟨0x420000000D, 0xFF000000FF, fun p => p.checksum == p.tag + p.valueHi + p.valueLo, fun i => i matches .pktTemperature _⟩,
    ⟨0x500000000D, 0xFF000000FF, fun p => p.checksum == p.tag + p.valueHi + p.valueLo, fun i => i matches .pktCo2 _⟩,
    ⟨0x000000000D, 0x00000000FF,
      fun p => p.checksum == p.tag + p.valueHi + p.valueLo && !(p.tag == 0x41 || p.tag == 0x42 || p.tag == 0x50),
      fun i => i matches .pktUnknown _ _⟩ ]

/-- A word matches a row and meets its condition (R89). -/
def PacketRow.accepts (r : PacketRow) (w : BitVec 40) : Bool := w &&& r.mask == r.bits && r.cond (packetOfWord w)

/-- The rows of format rsp (R85, R89): match, mask and condition, without the clause `ST ≠ IDLE`, which is no part of the word. -/
structure RspRow where
  bits  : BitVec 72
  mask  : BitVec 72
  cond  : BitVec 72 → Bool
  isRow : Instr → Bool

/-- The four rows of format rsp. -/
def rspRows : List RspRow :=
  [ ⟨0x800000000000000000, 0x800000000000000000, fun w => w.extractLsb' 68 3 == 0, fun i => i matches .rspError _ _ _⟩,
    ⟨0x000000000000000000, 0x880000000000000000, fun w => w.extractLsb' 68 3 == 0, fun i => i matches .rspShort _ _⟩,
    ⟨0x080000000000000000, 0x8F0000000000000000, fun w => w.extractLsb' 68 3 == 0, fun i => i matches .rspFrame _⟩,
    ⟨0x000000000000000000, 0x000000000000000000,
      fun w => w.extractLsb' 68 3 != 0 || (w.extractLsb' 71 1 == 0 && decide (8 < (w.extractLsb' 64 4).toNat)),
      fun i => i matches .rspReserved _ _⟩ ]

/-- A word matches a row and meets its condition (R89). -/
def RspRow.accepts (r : RspRow) (w : BitVec 72) : Bool := w &&& r.mask == r.bits && r.cond w

end Sys2Proof.Safety
end

