-- ==== Sys2Proof/Certificates/Slice0/Obligations.lean ====
section
/-!
DEFINITION. The statements for the provers. Each docstring names the rule or section of spec/ it comes from.
-/

open Sys2Proof Sys2Proof.Machine Sys2Proof.Safety

/-! ## Encoding -/

/-- 30_encoding.md §1 to §3: decoding the encoding of a well-formed instruction gives it back, for every row of the table. -/
def Obligations.DecodeOfEncodeIsIdentity : Prop :=
  ∀ i : Instr, i.WellFormed → decode (encode i) = i

/-- 30_encoding.md §1 to §3: encoding what a word decodes to gives the word back, so a decoded frame, packet, response or
CONFIGURE drops no bit. (The error value beside a response without `ERR` means nothing, R85, and is the one thing not kept.) -/
def Obligations.EncodeOfDecodeGivesWordBack : Prop :=
  (∀ w e, ∃ e', encode (decode (.rsp w e)) = .rsp w e') ∧
  (∀ w, encode (decode (.frame w)) = .frame w) ∧
  (∀ w, encode (decode (.packet w)) = .packet w) ∧
  (∀ key tmoEn tmoMs, encode (decode (.cmd ⟨0b00, key, tmoEn, tmoMs⟩)) = .cmd ⟨0b00, key, tmoEn, tmoMs⟩)

/-- 30_encoding.md §5, 41_validator.md §5: every packet is the first row of the table that matches and whose condition holds. -/
def Obligations.PacketDecodesToFirstTableRow : Prop :=
  ∀ w : BitVec 40, ∃ r : PacketRow, packetRows.find? (fun r => r.accepts w) = some r ∧ r.isRow (decode (.packet w)) = true

/-- 30_encoding.md §3: a response word meets a row of the table exactly when it decodes to that row. -/
def Obligations.ResponseDecodesToItsOnlyRow : Prop :=
  ∀ (w : BitVec 72) (e : Config.TransportError), ∀ r ∈ rspRows, r.accepts w = r.isRow (decode (.rsp w e))

/-- 95_test_vectors.md §3: words the spec writes out decode to the instructions they stand for, one or more of each format. -/
def Obligations.SpecWordsDecode : Prop :=
  decode (.cmd ⟨0b00, 0x0102030405060708, 1, 5000⟩) = .configure ⟨1, 2, 3, 4, 5, 6, 7, 8⟩ true 5000 ∧
  decode (.cmd ⟨0b01, 0, 0, 0⟩) = .readOne ∧
  decode (.cmd ⟨0b10, 0, 0, 0⟩) = .readCombined ∧
  decode (.rsp 0x08FFA133BECF9D9A9C noError) = .rspFrame ⟨0xFF, 0xA1, 0x33, 0xBE, 0xCF, 0x9D, 0x9A, 0x9C⟩ ∧
  decode (.rsp 0x05500457AB0D000000 noError) = .rspShort 5 ⟨0x50, 0x04, 0x57, 0xAB, 0x0D, 0, 0, 0⟩ ∧
  (∀ e, decode (.rsp 0x800000000000000000 e) = .rspError e 0 ⟨0, 0, 0, 0, 0, 0, 0, 0⟩) ∧
  decode (.frame 0x500457AB0DAABBCC) = .frameClear ⟨0x50, 0x04, 0x57, 0xAB, 0x0D, 0xAA, 0xBB, 0xCC⟩ ∧
  decode (.packet 0x500457AB0D) = .pktCo2 1111

/-- 30_encoding.md §5, 40_decryptor.md §1, 41_validator.md §1 (R91, R100, R130): the reserved inputs, and they alone, are refused;
every frame, every packet and every FD evaluation has a meaning. That such a word presented by itself is a step of its own, in every
state, is the model's choice (log entry 12; for frames log entry 13). -/
def Obligations.RefusedExactlyWhenReserved : Prop :=
  (∀ (c : CmdWord) (s : State), (∃ r, exec (decode (.cmd c)) s = .refused r) ↔ c.op = 0b11) ∧
  (∀ (w : BitVec 72) (e : Config.TransportError) (s : State),
    (∃ r, exec (decode (.rsp w e)) s = .refused r) ↔
      (s.st = .idle ∨ w.extractLsb' 68 3 ≠ 0 ∨ (w.extractLsb' 71 1 = 0 ∧ 8 < (w.extractLsb' 64 4).toNat))) ∧
  (∀ (w : BitVec 64) (s : State), ∃ t, exec (decode (.frame w)) s = .next t) ∧
  (∀ (w : BitVec 40) (s : State), ∃ t, exec (decode (.packet w)) s = .next t) ∧
  (∀ (row : FdRow) (x key : BitVec 64) (s : State), ∃ t, exec (decode (.fd row x key)) s = .next t)

/-- 30_encoding.md §5, 42_accumulator.md §6 (R91, R189): the two reserved rows stop in every state, and each response stops while
IDLE. The names of the refusals, and that a reserved response in IDLE stops as `responseWhileIdle`, are the model's choice (log
entry 14). -/
def Obligations.ReservedRowsStopByName : Prop :=
  (∀ s : State, exec .cmdReserved s = .refused .reservedCommand) ∧
  (∀ (w : BitVec 72) (e : Config.TransportError) (s : State), s.st ≠ .idle →
    exec (.rspReserved w e) s = .refused .reservedResponse) ∧
  (∀ (i : Instr) (s : State), isResponse i = true → s.st = .idle → exec i s = .refused .responseWhileIdle)

/-! ## The Frame Decryptor -/

/-- 40_decryptor.md §2 (R101): PERMUTE's positions, that it comes first, that it is its own inverse (derived from the swap list,
the rule says), that equal bytes stay, the worked example, and its row. That the row, presented by itself, is a step of its own in
every state and puts its output on the trace is the model's choice (log entry 12). -/
def Obligations.PermuteStage : Prop :=
  (∀ f : Bytes8, permuteBytes f = ⟨f.b2, f.b4, f.b0, f.b7, f.b1, f.b6, f.b5, f.b3⟩) ∧
  (∀ f : Bytes8, permuteBytes (permuteBytes f) = f) ∧
  (∀ b : Byte, permuteBytes ⟨b, b, b, b, b, b, b, b⟩ = ⟨b, b, b, b, b, b, b, b⟩) ∧
  (∀ f k : Bytes8, decryptBytes f k = subMaskBytes (rotr3Bytes (xorKeyBytes (permuteBytes f) k))) ∧
  permuteBytes ⟨0, 1, 2, 3, 4, 5, 6, 7⟩ = ⟨2, 4, 0, 7, 1, 6, 5, 3⟩ ∧
  (∀ (x : Bytes8) (s : State),
    exec (.permute x) s = .next { s with emitted := .fdOutput .permute (permuteBytes x) :: s.emitted })

/-- 40_decryptor.md §2 (R102): XOR_KEY position by position on the permuted bytes, the zero key, that it is its own inverse, the
worked example, and its row. That the row, presented by itself, is a step of its own in every state and puts its output on the
trace is the model's choice (log entry 12). -/
def Obligations.XorKeyStage : Prop :=
  (∀ q k : Bytes8, xorKeyBytes q k =
    ⟨q.b0 ^^^ k.b0, q.b1 ^^^ k.b1, q.b2 ^^^ k.b2, q.b3 ^^^ k.b3, q.b4 ^^^ k.b4, q.b5 ^^^ k.b5, q.b6 ^^^ k.b6, q.b7 ^^^ k.b7⟩) ∧
  (∀ f k : Bytes8, decryptBytes f k = subMaskBytes (rotr3Bytes (xorKeyBytes (permuteBytes f) k))) ∧
  (∀ q : Bytes8, xorKeyBytes q ⟨0, 0, 0, 0, 0, 0, 0, 0⟩ = q) ∧
  (∀ q k : Bytes8, xorKeyBytes (xorKeyBytes q k) k = q) ∧
  xorKeyBytes ⟨0x12, 0x34, 0x56, 0x78, 0x9A, 0xBC, 0xDE, 0xF0⟩ ⟨1, 2, 3, 4, 5, 6, 7, 8⟩ =
    ⟨0x13, 0x36, 0x55, 0x7C, 0x9F, 0xBA, 0xD9, 0xF8⟩ ∧
  (∀ (x k : Bytes8) (s : State),
    exec (.xorKey x k) s = .next { s with emitted := .fdOutput .xorKey (xorKeyBytes x k) :: s.emitted })

/-- 40_decryptor.md §2 (R103): ROTR3 as a word and byte by byte, that it comes third, its fixed points, where bit 0 of byte 7 and
bit 3 of byte 0 go, its order 64 (the rule marks its corner cases derived from the pseudocode), the worked examples, and its row.
That the row, presented by itself, is a step of its own in every state and puts its output on the trace is the model's choice (log
entry 12). -/
def Obligations.RotateStage : Prop :=
  (∀ x : Bytes8, wordView (rotr3Bytes x) = (wordView x >>> 3) ||| (wordView x <<< 61)) ∧
  (∀ x : Bytes8, rotr3Bytes x =
    ⟨(x.b7 <<< 5) ||| (x.b0 >>> 3), (x.b0 <<< 5) ||| (x.b1 >>> 3), (x.b1 <<< 5) ||| (x.b2 >>> 3),
     (x.b2 <<< 5) ||| (x.b3 >>> 3), (x.b3 <<< 5) ||| (x.b4 >>> 3), (x.b4 <<< 5) ||| (x.b5 >>> 3),
     (x.b5 <<< 5) ||| (x.b6 >>> 3), (x.b6 <<< 5) ||| (x.b7 >>> 3)⟩) ∧
  (∀ f k : Bytes8, decryptBytes f k = subMaskBytes (rotr3Bytes (xorKeyBytes (permuteBytes f) k))) ∧
  rotr3Bytes ⟨0, 0, 0, 0, 0, 0, 0, 0⟩ = ⟨0, 0, 0, 0, 0, 0, 0, 0⟩ ∧
  rotr3Bytes ⟨0xFF, 0xFF, 0xFF, 0xFF, 0xFF, 0xFF, 0xFF, 0xFF⟩ = ⟨0xFF, 0xFF, 0xFF, 0xFF, 0xFF, 0xFF, 0xFF, 0xFF⟩ ∧
  (∀ x : Bytes8, (rotr3Bytes x).b0.getLsbD 5 = x.b7.getLsbD 0) ∧
  (∀ x : Bytes8, (rotr3Bytes x).b0.getLsbD 0 = x.b0.getLsbD 3) ∧
  (∀ x : Bytes8, rotr3Bytes^[64] x = x) ∧
  (∀ n : Nat, 0 < n → n < 64 → ∃ x : Bytes8, rotr3Bytes^[n] x ≠ x) ∧
  rotr3Bytes ⟨0, 0, 0, 0, 0, 0, 0, 7⟩ = ⟨0xE0, 0, 0, 0, 0, 0, 0, 0⟩ ∧
  rotr3Bytes ⟨0x12, 0x34, 0x56, 0x78, 0x9A, 0xBC, 0xDE, 0xF0⟩ = ⟨0x02, 0x46, 0x8A, 0xCF, 0x13, 0x57, 0x9B, 0xDE⟩ ∧
  (∀ (x : Bytes8) (s : State),
    exec (.rotr3 x) s = .next { s with emitted := .fdOutput .rotr3 (rotr3Bytes x) :: s.emitted })

/-- 40_decryptor.md §2 (R104): SUB_MASK, the last stage, with the mask written out and as the nibble swap of "Htemp99e", its
corner cases and worked example, and its row. (The ASCII bytes are the spec's general knowledge, G1, log entry 18.) That the row,
presented by itself, is a step of its own in every state and puts its output on the trace is the model's choice (log entry 12). -/
def Obligations.SubMaskStage : Prop :=
  mask = ⟨0x84, 0x47, 0x56, 0xD6, 0x07, 0x93, 0x93, 0x56⟩ ∧
  (∀ r : Bytes8, subMaskBytes r =
    ⟨r.b0 - 0x84, r.b1 - 0x47, r.b2 - 0x56, r.b3 - 0xD6, r.b4 - 0x07, r.b5 - 0x93, r.b6 - 0x93, r.b7 - 0x56⟩) ∧
  mask = mapBytes (fun m => (m <<< 4) ||| (m >>> 4)) ⟨0x48, 0x74, 0x65, 0x6D, 0x70, 0x39, 0x39, 0x65⟩ ∧
  (∀ f k : Bytes8, decryptBytes f k = subMaskBytes (rotr3Bytes (xorKeyBytes (permuteBytes f) k))) ∧
  subMaskBytes ⟨0, 0, 0, 0, 0, 0, 0, 0⟩ = ⟨0x7C, 0xB9, 0xAA, 0x2A, 0xF9, 0x6D, 0x6D, 0xAA⟩ ∧
  subMaskBytes mask = ⟨0, 0, 0, 0, 0, 0, 0, 0⟩ ∧
  subMaskBytes ⟨0xD4, 0x4B, 0xAD, 0x81, 0x14, 0x93, 0x93, 0x56⟩ = ⟨0x50, 0x04, 0x57, 0xAB, 0x0D, 0, 0, 0⟩ ∧
  (∀ (x : Bytes8) (s : State),
    exec (.subMask x) s = .next { s with emitted := .fdOutput .subMask (subMaskBytes x) :: s.emitted })

/-- 40_decryptor.md §1 and §2 (R100, R105): DECRYPT is the four stages in order; the source's worked example with its stages; the
zero frame; and its row, the evaluation R100 lets the host make. That this evaluation is a step of its own in every state and puts
its output on the trace is the model's choice (log entry 12). -/
def Obligations.DecryptIsFourStages : Prop :=
  (∀ f k : Bytes8, decryptBytes f k = subMaskBytes (rotr3Bytes (xorKeyBytes (permuteBytes f) k))) ∧
  decryptBytes ⟨0x6C, 0xA4, 0xA2, 0xB6, 0x5D, 0x9A, 0x9C, 0x08⟩ ⟨0, 0, 0, 0, 0, 0, 0, 0⟩ =
    ⟨0x50, 0x04, 0x57, 0xAB, 0x0D, 0, 0, 0⟩ ∧
  permuteBytes ⟨0x6C, 0xA4, 0xA2, 0xB6, 0x5D, 0x9A, 0x9C, 0x08⟩ = ⟨0xA2, 0x5D, 0x6C, 0x08, 0xA4, 0x9C, 0x9A, 0xB6⟩ ∧
  xorKeyBytes ⟨0xA2, 0x5D, 0x6C, 0x08, 0xA4, 0x9C, 0x9A, 0xB6⟩ ⟨0, 0, 0, 0, 0, 0, 0, 0⟩ =
    ⟨0xA2, 0x5D, 0x6C, 0x08, 0xA4, 0x9C, 0x9A, 0xB6⟩ ∧
  rotr3Bytes ⟨0xA2, 0x5D, 0x6C, 0x08, 0xA4, 0x9C, 0x9A, 0xB6⟩ = ⟨0xD4, 0x4B, 0xAD, 0x81, 0x14, 0x93, 0x93, 0x56⟩ ∧
  decryptBytes ⟨0, 0, 0, 0, 0, 0, 0, 0⟩ ⟨0, 0, 0, 0, 0, 0, 0, 0⟩ =
    ⟨0x7C, 0xB9, 0xAA, 0x2A, 0xF9, 0x6D, 0x6D, 0xAA⟩ ∧
  (∀ (x k : Bytes8) (s : State),
    exec (.decrypt x k) s = .next { s with emitted := .fdOutput .decrypt (decryptBytes x k) :: s.emitted })

/-- 40_decryptor.md §4 (R108, which the spec marks derived from the stages): ENCRYPT undoes DECRYPT's stages in reverse, and
DECRYPT of it gives every block back under every key. -/
def Obligations.DecryptUndoesEncrypt : Prop :=
  (∀ c k : Bytes8, encryptBytes c k = permuteBytes (xorKeyBytes (rotl3Bytes (zipBytes (· + ·) c mask)) k)) ∧
  (∀ x : Bytes8, wordView (rotl3Bytes x) = (wordView x).rotateLeft 3) ∧
  (∀ c k : Bytes8, decryptBytes (encryptBytes c k) k = c) ∧
  encryptBytes ⟨0x50, 0x04, 0x57, 0xAB, 0x0D, 0, 0, 0⟩ ⟨0, 0, 0, 0, 0, 0, 0, 0⟩ =
    ⟨0x6C, 0xA4, 0xA2, 0xB6, 0x5D, 0x9A, 0x9C, 0x08⟩

/-- 40_decryptor.md §4: for a fixed key DECRYPT is a bijection on 8-byte arrays. -/
def Obligations.DecryptIsBijective : Prop :=
  ∀ key : Bytes8, Function.Bijective (fun f : Bytes8 => decryptBytes f key)

/-- 40_decryptor.md §3 (R106): the form is read from raw byte 4; a clear frame is the block under every key and its packet has the
terminator; an encrypted one is decrypted with `KEY`; the worked examples. (That a clear frame can fail only the checksum is
marked derived by the rule.) That the two rows, presented by themselves, put the block out under `KEY` is the model's choice (log
entries 12 and 13). -/
def Obligations.SelectBlockByRawByteFour : Prop :=
  (∀ f k : Bytes8, selectBlock f k = if f.b4 = 0x0D then f else decryptBytes f k) ∧
  (∀ f k : Bytes8, f.b4 = 0x0D → (packetize (selectBlock f k)).terminator = 0x0D) ∧
  (∀ f k : Bytes8, f.b4 = 0x0D → decodePacketBytes (packetize (selectBlock f k)) ≠ .err .invalidMessage) ∧
  (∀ f k k' : Bytes8, f.b4 = 0x0D → selectBlock f k = selectBlock f k') ∧
  (∀ k : Bytes8, selectBlock ⟨0x50, 0x04, 0x57, 0xAB, 0x0D, 0xAA, 0xBB, 0xCC⟩ k =
    ⟨0x50, 0x04, 0x57, 0xAB, 0x0D, 0xAA, 0xBB, 0xCC⟩) ∧
  selectBlock ⟨0x6C, 0xA4, 0xA2, 0xB6, 0x5D, 0x9A, 0x9C, 0x08⟩ ⟨0, 0, 0, 0, 0, 0, 0, 0⟩ =
    ⟨0x50, 0x04, 0x57, 0xAB, 0x0D, 0, 0, 0⟩ ∧
  (∀ (f : Bytes8) (s : State), exec (.frameClear f) s = .next { s with emitted := .selected f :: s.emitted }) ∧
  (∀ (f : Bytes8) (s : State),
    exec (.frameEncrypted f) s = .next { s with emitted := .selected (decryptBytes f s.key) :: s.emitted })

/-- 40_decryptor.md §3 (R106): the row a frame word decodes to gives SELECT_BLOCK of its bytes under `KEY`. That a frame presented
by itself is evaluated so, in every state, and that its block is put on the output trace, is the model's choice (log entries 12
and 13). -/
def Obligations.FrameWordGivesSelectedBlock : Prop :=
  ∀ (w : BitVec 64) (s : State),
    exec (decode (.frame w)) s = .next { s with emitted := .selected (selectBlock (bytesView w) s.key) :: s.emitted }

/-! ## The Packet Validator -/

/-- 41_validator.md §1 and §2 (R130, R132, R133, R134): the terminator first and exactly, then the 8-bit wrapping sum without the
terminator; their status codes; the worked examples; and the two rows. That a packet row, presented by itself, is a step of its
own in every state and puts its output on the trace is the model's choice (log entry 12). -/
def Obligations.ValidatorChecksTerminatorThenSum : Prop :=
  (∀ p : Packet, p.terminator ≠ 0x0D → decodePacketBytes p = .err .invalidMessage) ∧
  (∀ p : Packet, p.terminator = 0x0D → p.checksum.toNat ≠ (p.tag.toNat + p.valueHi.toNat + p.valueLo.toNat) % 256 →
    decodePacketBytes p = .err .checksum) ∧
  statusCode (errorStatus .invalidMessage) = 1 ∧ statusCode (errorStatus .checksum) = 2 ∧
  decodePacketBytes ⟨0x42, 0x12, 0x69, 0xBD, 0x00⟩ = .err .invalidMessage ∧
  decodePacketBytes ⟨0x42, 0x12, 0x69, 0x00, 0x0D⟩ = .err .checksum ∧
  decodePacketBytes ⟨0x42, 0x12, 0x69, 0x00, 0x00⟩ = .err .invalidMessage ∧
  decodePacketBytes ⟨0xFF, 0xFF, 0xFF, 0xFD, 0x0D⟩ = .ok (.unknown 0xFF 65535) ∧
  decodePacketBytes ⟨0x00, 0x00, 0x00, 0x00, 0x0D⟩ = .ok (.unknown 0x00 0) ∧
  (∀ (p : Packet) (s : State),
    exec (.pktInvalidMessage p) s = .next { s with emitted := .decoded (.err .invalidMessage) :: s.emitted }) ∧
  (∀ (p : Packet) (s : State),
    exec (.pktChecksum p) s = .next { s with emitted := .decoded (.err .checksum) :: s.emitted })

/-- R135: a packet that passes both checks gives the reading of its tag with the value high byte first; each tag has one kind. -/
def Obligations.ValidPacketDecodesByTag : Prop :=
  ∀ (tag a b : Byte) (v : Value), v.toNat = a.toNat * 256 + b.toNat →
    decodePacketBytes ⟨tag, a, b, tag + a + b, 0x0D⟩ =
      .ok (if tag = 0x41 then .humidity v else if tag = 0x42 then .temperature v
        else if tag = 0x50 then .co2 v else .unknown tag v)

/-- 41_validator.md §3: each row of a valid packet answers with its reading and changes no register. That such a row, presented by
itself, is a step of its own in every state and puts its output on the trace is the model's choice (log entry 12). -/
def Obligations.KindRowsGiveTheirReading : Prop :=
  (∀ (v : Value) (s : State), exec (.pktHumidity v) s = .next { s with emitted := .decoded (.ok (.humidity v)) :: s.emitted }) ∧
  (∀ (v : Value) (s : State),
    exec (.pktTemperature v) s = .next { s with emitted := .decoded (.ok (.temperature v)) :: s.emitted }) ∧
  (∀ (v : Value) (s : State), exec (.pktCo2 v) s = .next { s with emitted := .decoded (.ok (.co2 v)) :: s.emitted }) ∧
  (∀ (t : Byte) (v : Value) (s : State),
    exec (.pktUnknown t v) s = .next { s with emitted := .decoded (.ok (.unknown t v)) :: s.emitted })

/-- 41_validator.md §1 and §5: the row a packet word decodes to answers exactly what DECODE answers for its bytes. That a packet
word, presented by itself, is a step of its own in every state and puts its output on the trace is the model's choice (log entry
12). -/
def Obligations.PacketWordGivesDecodeResult : Prop :=
  ∀ (w : BitVec 40) (s : State),
    exec (decode (.packet w)) s = .next { s with emitted := .decoded (decodePacketBytes (packetOfWord w)) :: s.emitted }

/-- 10_state.md §6, 40_decryptor.md §1 and §3, 41_validator.md §1 (R37, R100, R106, R130): the output of the FD and of the PV
depends on their inputs only, and they write no state: for each of their rows, and for FRAME_CLEAR, whose block is the frame
itself, one output serves every state. FRAME_CLEAR is no row of the FD: that a frame by itself is evaluated is the model's choice
(log entry 13), and so is that all these rows are steps of their own with one entry on the trace (log entry 12). -/
def Obligations.UnitsAreStateless : Prop :=
  ∀ i : Instr, isEvaluation i = true → (∀ f, i ≠ .frameEncrypted f) →
    ∃ e : Emission, ∀ s : State, exec i s = .next { s with emitted := e :: s.emitted }

/-! ## Scaling -/

/-- R140: the exact scaled value of each kind; an unknown reading has none. -/
def Obligations.ExactScaledValues : Prop :=
  (∀ v : Value, scaledExact (.humidity v) = some ((v.toNat : Rat) / 100)) ∧
  (∀ v : Value, scaledExact (.temperature v) = some ((v.toNat : Rat) / 16 - 27315 / 100)) ∧
  (∀ v : Value, scaledExact (.co2 v) = some (v.toNat : Rat)) ∧
  (∀ (t : Byte) (v : Value), scaledExact (.unknown t v) = none)

/-- 41_validator.md §4 (R141): TempF32's formula, that `v / 16` is exact, the pattern and value of `fl32(273.15)`, and the worked
examples. (Binary32 and its rounding are the spec's general knowledge and its choice, G2, D15, log entry 9.) -/
def Obligations.TemperatureRendering : Prop :=
  (∀ v : Value, tempF32 v = bits32 (fl32 (fl32 ((v.toNat : Rat) / 16) - fl32 (27315 / 100)))) ∧
  (∀ v : Value, fl32 ((v.toNat : Rat) / 16) = (v.toNat : Rat) / 16) ∧
  bits32 (fl32 (27315 / 100)) = 0x43889333 ∧
  fl32 (27315 / 100) = 273149993896484375 / 1000000000000000 ∧
  tempF32 4713 = 0x41AB4CD0 ∧ tempF32 0 = 0xC3889333 ∧ tempF32 65535 = 0x456EEC9A ∧
  tempF32Value 65535 = 382278759765625 / 100000000000

/-- 41_validator.md §4 (R142): HumF32's formula, that `fl32(v)` is exact, the pattern and value of `fl32(0.01)`, and the worked
examples. (Binary32 and its rounding are the spec's general knowledge and its choice, G2, D15, log entry 9.) -/
def Obligations.HumidityRendering : Prop :=
  (∀ v : Value, humF32 v = bits32 (fl32 (fl32 (v.toNat : Rat) * fl32 (1 / 100)))) ∧
  (∀ v : Value, fl32 (v.toNat : Rat) = (v.toNat : Rat)) ∧
  bits32 (fl32 (1 / 100)) = 0x3C23D70A ∧
  fl32 (1 / 100) = 999999977648258209228515625 / 100000000000000000000000000000 ∧
  humF32 0 = 0x00000000 ∧ humF32 100 = 0x3F800000 ∧ humF32 10000 = 0x42C80000 ∧ humF32 65535 = 0x4423D666 ∧
  humF32Value 100 = 1 ∧ humF32Value 10000 = 100 ∧ humF32Value 65535 = 6553499755859375 / 10000000000000

/-- 41_validator.md §4: for every 16-bit value the renderings stay within a tolerance of the exact values. The two bounds are the
model's own reading of the source's "within float tolerance" (log entry 23). -/
def Obligations.RenderingsNearExactValues : Prop :=
  (∀ v : Value, |tempF32Value v - temperatureExact v| ≤ 1 / 4096) ∧
  (∀ v : Value, |humF32Value v - humidityExact v| ≤ 1 / 16384)

/-- 41_validator.md §4, 00_scope.md §4: the patterns put out stand for the values computed. -/
def Obligations.PatternsStandForTheirValues : Prop :=
  (∀ v : Value, binary32Value (tempF32 v) = tempF32Value v) ∧ (∀ v : Value, binary32Value (humF32 v) = humF32Value v)

/-! ## Commands -/

/-- R172: an accepted CONFIGURE, with the range check on the signed operand; everything it does not name stays, and nothing is
emitted. -/
def Obligations.ConfigureWritesOrRejects : Prop :=
  ∀ (key : Bytes8) (tmoEn : Bool) (tmoMs : BitVec 64) (s : State), s.st = .idle →
    exec (.configure key tmoEn tmoMs) s =
      .next (if tmoEn = true ∧ ¬ (0 ≤ tmoMs.toInt ∧ tmoMs.toInt ≤ 2147483647) then
        { s with resValid := true, resStatus := .invalidTimeout, resSingle := none, resComb := none, resErr := none }
      else
        { s with
          key := key, tmoEn := tmoEn, tmoMs := if tmoEn = true then BitVec.ofNat 31 tmoMs.toNat else s.tmoMs,
          resValid := true, resStatus := .ok, resSingle := none, resComb := none, resErr := none })

/-- 42_accumulator.md §2 and §3: an accepted READ_ONE enters BUSY_ONE, makes the results unreadable, and asks for one frame with
`TMO_MS` or -1; everything else stays. -/
def Obligations.ReadOneStarts : Prop :=
  ∀ s : State, s.st = .idle →
    exec .readOne s = .next
      { s with
        st := .busyOne, resValid := false,
        emitted := .request (if s.tmoEn = true then BitVec.ofNat 32 s.tmoMs.toNat else BitVec.ofInt 32 (-1)) :: s.emitted }

/-- R174: an accepted READ_COMBINED empties both slots, takes `now` into `T0`, makes the results unreadable, and asks for the
first frame; everything else stays. -/
def Obligations.ReadCombinedStarts : Prop :=
  ∀ s : State, s.st = .idle →
    exec .readCombined s = .next
      { s with
        st := .busyComb, tempSlot := none, co2Slot := none, t0 := s.now, t0Held := true, resValid := false,
        emitted := .request (if s.tmoEn = true then BitVec.ofNat 32 s.tmoMs.toNat else BitVec.ofInt 32 (-1)) :: s.emitted }

/-- 42_accumulator.md §1 (R171; how a held command stays on its port is the model's choice, log entry 3): while busy the three
commands are held (nothing changes, and the command stays presented), opcode `0b11` is refused in every state, and a command
still presented when `ST` is IDLE again is accepted by the next step. -/
def Obligations.BusyCommandsAreHeld : Prop :=
  (∀ (s : State) (i : Instr), s.st ≠ .idle → (i = .readOne ∨ i = .readCombined ∨ ∃ k en ms, i = .configure k en ms) →
    exec i s = .next s) ∧
  (∀ s : State, exec .cmdReserved s = .refused .reservedCommand) ∧
  (∀ (s : State) (c : CmdWord) (now : Nat) (rest : List Input), s.st ≠ .idle → c.op ≠ 0b11 →
    s.inputs = .word (.cmd c) now :: rest →
    ∃ t, step s = .next t ∧
      t = { s with inputs := rest, cmdPort := some c, now := if s.st = .busyComb then max s.now now else now }) ∧
  (∀ (s : State) (c : CmdWord), s.st = .idle → s.inputs = [] → s.after = .silent → s.cmdPort = some c →
    step s = exec (decode (.cmd c)) { s with cmdPort := none })

/-! ## Responses -/

/-- R176: a transport error ends the command in both busy states, with the error value unchanged. -/
def Obligations.TransportErrorEndsCommand : Prop :=
  ∀ (e : Config.TransportError) (count : BitVec 4) (data : Bytes8) (s : State), s.st ≠ .idle →
    exec (.rspError e count data) s = .next
      { s with st := .idle, resValid := true, resStatus := .transport, resSingle := none, resComb := none, resErr := some e }

/-- R177: a short read ends the command with INVALID_MESSAGE, whatever its count and bytes. -/
def Obligations.ShortReadEndsCommand : Prop :=
  ∀ (count : BitVec 4) (data : Bytes8) (s : State), s.st ≠ .idle →
    exec (.rspShort count data) s = .next
      { s with st := .idle, resValid := true, resStatus := .invalidMessage, resSingle := none, resComb := none, resErr := none }

/-- R179: a decode failure of a full frame ends the command in both busy states with its own status; slots and deadline are not
looked at. -/
def Obligations.DecodeFailureEndsCommand : Prop :=
  ∀ (f : Bytes8) (s : State) (d : DecodeError), s.st ≠ .idle → frameResult s.key f = .err d →
    exec (.rspFrame f) s = .next
      { s with
        st := .idle, resValid := true, resStatus := (match d with | .invalidMessage => .invalidMessage | .checksum => .checksum),
        resSingle := none, resComb := none, resErr := none }

/-- R180: in BUSY_ONE a reading of any kind ends the command with OK, the tag and the value; the slots stay. -/
def Obligations.SingleReadingEndsReadOne : Prop :=
  ∀ (f : Bytes8) (s : State) (r : Reading), s.st = .busyOne → frameResult s.key f = .ok r →
    exec (.rspFrame f) s = .next
      { s with
        st := .idle, resValid := true, resStatus := .ok,
        resSingle := some ((selectBlock f s.key).b0, (selectBlock f s.key).b1 ++ (selectBlock f s.key).b2),
        resComb := none, resErr := none }

/-- R182: in BUSY_COMB a reading that leaves both slots full ends the command with the pair, whatever the time is. -/
def Obligations.FullPairCompletesReadCombined : Prop :=
  ∀ (f : Bytes8) (s : State) (r : Reading) (w c : Value), s.st = .busyComb → frameResult s.key f = .ok r →
    (temperatureOf r).or s.tempSlot = some w → (co2Of r).or s.co2Slot = some c →
    exec (.rspFrame f) s = .next
      { s with
        tempSlot := some w, co2Slot := some c, st := .idle, resValid := true, resStatus := .ok, resSingle := none,
        resComb := some (w, c), resErr := none }

/-- R183, R184: in BUSY_COMB a reading that leaves a slot empty ends the command with TIMEOUT when a deadline is configured and
the elapsed time is strictly over the budget, and otherwise asks for the next frame and keeps everything else; and no command in
progress ends with TIMEOUT but a READ_COMBINED, at a full frame that decodes. -/
def Obligations.OpenPairTimesOutOrLoops : Prop :=
  (∀ (f : Bytes8) (s : State) (r : Reading), s.st = .busyComb → frameResult s.key f = .ok r →
    ((temperatureOf r).or s.tempSlot = none ∨ (co2Of r).or s.co2Slot = none) →
    exec (.rspFrame f) s = .next
      (if s.tmoEn = true ∧ (s.now : Int) - (s.t0 : Int) > (s.tmoMs.toNat : Int) * (Config.upm : Int) then
        { s with
          tempSlot := (temperatureOf r).or s.tempSlot, co2Slot := (co2Of r).or s.co2Slot, st := .idle, resValid := true,
          resStatus := .timeout, resSingle := none, resComb := none, resErr := none }
      else
        { s with
          tempSlot := (temperatureOf r).or s.tempSlot, co2Slot := (co2Of r).or s.co2Slot,
          emitted := .request (if s.tmoEn = true then BitVec.ofNat 32 s.tmoMs.toNat else BitVec.ofInt 32 (-1)) :: s.emitted })) ∧
  (∀ (i : Instr) (s t : State), exec i s = .next t → Ends s t → t.resStatus = .timeout →
    s.st = .busyComb ∧ ∃ f r, i = .rspFrame f ∧ frameResult s.key f = .ok r)

/-- 42_accumulator.md §3 (R175), the other value of the policy parameter: under `REMAINING` a loop read that the comparator let pass
carries the whole milliseconds of the time left, rounded down, a number from 0 to `TMO_MS`; without a deadline it carries -1. -/
def Obligations.RemainingArgumentInBudget : Prop :=
  ∀ (tmoMs : BitVec 31) (t0 now : Nat), timeoutExceeded true tmoMs t0 now = false →
    0 ≤ (loopTimeoutArg .remaining true tmoMs t0 now).toInt ∧
    (loopTimeoutArg .remaining true tmoMs t0 now).toInt ≤ tmoMs.toNat ∧
    ((loopTimeoutArg .remaining true tmoMs t0 now).toInt : Rat) ≤
      ((tmoMs.toNat : Rat) * Config.upm - ((now - t0 : Nat) : Rat)) / Config.upm ∧
    (t0 ≤ now → (loopTimeoutArg .remaining true tmoMs t0 now).toInt =
      ⌊((tmoMs.toNat : Rat) * Config.upm - ((now : Rat) - (t0 : Rat))) / Config.upm⌋) ∧
    (loopTimeoutArg .remaining false tmoMs t0 now).toInt = -1

/-- 60_exceptions.md §1: whatever status a command in progress ends with, its cause is the one the taxonomy names. -/
def Obligations.StatusHasItsCause : Prop :=
  ∀ (i : Instr) (s t : State), exec i s = .next t → Ends s t →
    match t.resStatus with
    | .ok => ∃ f r, i = .rspFrame f ∧ frameResult s.key f = .ok r ∧
        (s.st = .busyOne ∧ t.resSingle.isSome ∨ s.st = .busyComb ∧ t.resComb.isSome)
    | .invalidMessage => (∃ c d, i = .rspShort c d) ∨ ∃ f, i = .rspFrame f ∧ frameResult s.key f = .err .invalidMessage
    | .checksum => ∃ f, i = .rspFrame f ∧ frameResult s.key f = .err .checksum
    | .timeout => (∃ f r, i = .rspFrame f ∧ frameResult s.key f = .ok r) ∧ s.st = .busyComb ∧ s.tmoEn = true ∧
        s.tmoMs.toNat * Config.upm < s.now - s.t0
    | .invalidTimeout => False
    | .transport => ∃ e c d, i = .rspError e c d ∧ t.resErr = some e

/-- 42_accumulator.md §6 (R190, R191 c and d): a response either ends the command and asks for nothing, or leaves a
READ_COMBINED in progress and asks exactly once. -/
def Obligations.ResponseEndsOrAsksOnce : Prop :=
  ∀ (i : Instr) (s t : State), isResponse i = true → exec i s = .next t →
    (t.st = .idle ∧ t.resValid = true ∧ t.emitted = s.emitted) ∨
    (s.st = .busyComb ∧ t.st = .busyComb ∧ t.resValid = s.resValid ∧ ∃ q, t.emitted = .request q :: s.emitted)

/-- 42_accumulator.md §5: with no deadline configured no instruction ends a command with TIMEOUT, and every request asked carries
-1. -/
def Obligations.NoDeadlineNeverTimesOut : Prop :=
  ∀ (i : Instr) (s t : State), s.tmoEn = false → exec i s = .next t →
    (Ends s t → t.resStatus ≠ .timeout) ∧
    ∀ q, t.emitted = .request q :: s.emitted → q.toInt = -1

/-! ## Frames -/

/-- 42_accumulator.md §3 to §6: what a response leaves unchanged when it gives a next state: the configuration, `T0`, the time
input, the port and the schedule; the slots too unless a READ_COMBINED takes a reading; the results too unless the command ends.
-/
def Obligations.ResponseFrame : Prop :=
  ∀ (i : Instr) (s t : State), isResponse i = true → exec i s = .next t →
    t.key = s.key ∧ t.tmoEn = s.tmoEn ∧ t.tmoMs = s.tmoMs ∧ t.t0 = s.t0 ∧ t.t0Held = s.t0Held ∧ t.now = s.now ∧
    t.cmdPort = s.cmdPort ∧ t.inputs = s.inputs ∧ t.after = s.after ∧
    ((∀ f r, ¬ (i = .rspFrame f ∧ s.st = .busyComb ∧ frameResult s.key f = .ok r)) →
      t.tempSlot = s.tempSlot ∧ t.co2Slot = s.co2Slot) ∧
    (t.st ≠ .idle → t.resStatus = s.resStatus ∧ t.resSingle = s.resSingle ∧ t.resComb = s.resComb ∧ t.resErr = s.resErr)

/-- 42_accumulator.md §2: what a command leaves unchanged when it gives a next state (accepted or held). -/
def Obligations.CommandFrame : Prop :=
  (∀ (key : Bytes8) (en : Bool) (ms : BitVec 64) (s t : State), exec (.configure key en ms) s = .next t →
    t.st = s.st ∧ t.t0 = s.t0 ∧ t.t0Held = s.t0Held ∧ t.tempSlot = s.tempSlot ∧ t.co2Slot = s.co2Slot ∧ t.now = s.now ∧
    t.cmdPort = s.cmdPort ∧ t.inputs = s.inputs ∧ t.after = s.after ∧ t.emitted = s.emitted ∧ (en = false → t.tmoMs = s.tmoMs)) ∧
  (∀ (i : Instr) (s t : State), i = .readOne ∨ i = .readCombined → exec i s = .next t →
    t.key = s.key ∧ t.tmoEn = s.tmoEn ∧ t.tmoMs = s.tmoMs ∧ t.resStatus = s.resStatus ∧ t.resSingle = s.resSingle ∧
    t.resComb = s.resComb ∧ t.resErr = s.resErr ∧ t.now = s.now ∧ t.cmdPort = s.cmdPort ∧ t.inputs = s.inputs ∧
    t.after = s.after ∧
    (i = .readOne → t.t0 = s.t0 ∧ t.t0Held = s.t0Held ∧ t.tempSlot = s.tempSlot ∧ t.co2Slot = s.co2Slot))

/-- 10_state.md §6, 40_decryptor.md §3, 41_validator.md §5: an evaluation by itself changes no register, nor the port, the schedule
or the time input: only one entry is put on the outputs. That these rows are inputs of their own, and the one entry on the trace,
are the model's choice (log entries 12 and 13). -/
def Obligations.EvaluationFrame : Prop :=
  ∀ (i : Instr) (s t : State), isEvaluation i = true → exec i s = .next t →
    ∃ e, (∀ q, e ≠ .request q) ∧ t = { s with emitted := e :: s.emitted }

/-- 10_state.md §2: no instruction but an accepted CONFIGURE with a legal timeout changes `KEY`, `TMO_EN` or `TMO_MS`. -/
def Obligations.OnlyConfigureWritesConfiguration : Prop :=
  ∀ (i : Instr) (s t : State), exec i s = .next t → (t.key ≠ s.key ∨ t.tmoEn ≠ s.tmoEn ∨ t.tmoMs ≠ s.tmoMs) →
    s.st = .idle ∧ ∃ k en ms, i = .configure k en ms ∧ (en = true → 0 ≤ ms.toInt ∧ ms.toInt ≤ 2147483647)

/-- 70_reset_and_hazards.md §2: while a READ is in progress no step changes the configuration but one whose next move is a reset.
(The form of a move is the model's choice, log entries 2 and 24.) -/
def Obligations.BusyStepKeepsConfiguration : Prop :=
  ∀ s t : State, s.st ≠ .idle → (∀ u, nextMove s ≠ some (.reset, u)) → step s = .next t →
    t.key = s.key ∧ t.tmoEn = s.tmoEn ∧ t.tmoMs = s.tmoMs

/-! ## What is not read -/

/-- 40_decryptor.md §3: the key is not read on the clear path: another key gives the same next state, but for the key. -/
def Obligations.ClearFrameIgnoresKey : Prop :=
  ∀ (f k : Bytes8) (s t : State), f.b4 = 0x0D → exec (.rspFrame f) s = .next t →
    exec (.rspFrame f) { s with key := k } = .next { t with key := k }

/-- 40_decryptor.md §3 (R107): bytes 5 to 7 of the cleartext block are not read: two frames whose blocks agree in bytes 0 to 4
have the same effect. -/
def Obligations.BlockTailIsNotRead : Prop :=
  ∀ (f g : Bytes8) (s : State),
    (selectBlock f s.key).b0 = (selectBlock g s.key).b0 → (selectBlock f s.key).b1 = (selectBlock g s.key).b1 →
    (selectBlock f s.key).b2 = (selectBlock g s.key).b2 → (selectBlock f s.key).b3 = (selectBlock g s.key).b3 →
    (selectBlock f s.key).b4 = (selectBlock g s.key).b4 →
    exec (.rspFrame f) s = exec (.rspFrame g) s

/-- 20_memory.md §3, 30_encoding.md §2 and §3: no byte of a short read is read, and neither the count nor the bytes of an error
response: two words that differ only there have the same effect. (That the don't-care fields may take any value, and that the
decoder drops a command's and an unused error value, is the model's inference, log entry 16.) -/
def Obligations.DontCareBitsAreNotRead : Prop :=
  (∀ (w w' : BitVec 72) (e e' : Config.TransportError) (s : State),
    w.extractLsb' 67 5 = 0 → w'.extractLsb' 67 5 = 0 → exec (decode (.rsp w e)) s = exec (decode (.rsp w' e')) s) ∧
  (∀ (w w' : BitVec 72) (e : Config.TransportError) (s : State),
    w.extractLsb' 68 4 = 8 → w'.extractLsb' 68 4 = 8 → exec (decode (.rsp w e)) s = exec (decode (.rsp w' e)) s) ∧
  (∀ (c c' : CmdWord) (s : State), c.op = c'.op → c.op ≠ 0b00 → exec (decode (.cmd c)) s = exec (decode (.cmd c')) s)

/-! ## The machine -/

/-- 42_accumulator.md §1: when the next move brings a raw word, the step is the decoded instruction's, run in the state in which
the move is taken off the schedule, the time input has moved, and a command stands on its port while the RA is busy. Where the list
is over, the next move is the first of the moves made over and over, or the next of the unknown ones. The schedule, the port, how
the time input moves and what follows the list are the model's choice (log entries 2, 3, 4 and 24). -/
def Obligations.StepRunsDecodedWord : Prop :=
  (∀ (s : State) (w : RawWord) (now : Nat) (rest : List Input), s.inputs = .word w now :: rest →
    step s = exec (decode w)
      { s with
        inputs := rest, now := if s.st = .busyComb then max s.now now else now,
        cmdPort := (match w with | .cmd c => if s.st = .idle then none else some c | _ => s.cmdPort) }) ∧
  (∀ (s : State) (m : Input) (rest : List Input), s.inputs = [] → s.after = .repeated (m :: rest) →
    step s = step { s with inputs := m :: rest }) ∧
  (∀ (s : State) (n : Nat), s.inputs = [] → s.after = .free n →
    step s = step { s with inputs := [Config.freeMove n], after := .free (n + 1) })

/-- 42_accumulator.md §1 and §7: the moves without a word: time passing, and surroundings that never move again, present the command
on the port again, or leave the machine waiting; a withdrawal clears the port. The forms of these moves are the model's choice (log
entries 2, 3, 4 and 24). -/
def Obligations.StepWithoutWord : Prop :=
  (∀ (s : State) (now : Nat) (rest : List Input), s.inputs = .tick now :: rest → s.cmdPort = none →
    step s = .next { s with inputs := rest, now := if s.st = .busyComb then max s.now now else now }) ∧
  (∀ (s : State) (c : CmdWord) (now : Nat) (rest : List Input), s.inputs = .tick now :: rest → s.cmdPort = some c →
    step s = exec (decode (.cmd c))
      { s with
        inputs := rest, now := if s.st = .busyComb then max s.now now else now,
        cmdPort := if s.st = .idle then none else some c }) ∧
  (∀ (s : State) (rest : List Input), s.inputs = .withdraw :: rest → step s = .next { s with inputs := rest, cmdPort := none }) ∧
  (∀ s : State, s.inputs = [] → (s.after = .silent ∨ s.after = .repeated []) → s.cmdPort = none → step s = .next s) ∧
  (∀ (s : State) (c : CmdWord), s.inputs = [] → (s.after = .silent ∨ s.after = .repeated []) → s.cmdPort = some c →
    step s = exec (decode (.cmd c)) { s with cmdPort := if s.st = .idle then none else some c })

/-- 70_reset_and_hazards.md §1, 10_state.md §1 and §5 (R250, R28): the reset input gives every register its reset value, abandons
an outstanding read and emits nothing; what has no reset value cannot be read; and a late response is refused. That reset is a
move on the schedule, and how a register without a value reads, are the model's choice (log entries 2, 10 and 11). -/
def Obligations.ResetInputResets : Prop :=
  ∀ (s : State) (rest : List Input), s.inputs = .reset :: rest →
    ∃ t, step s = .next t ∧ t.key = ⟨0, 0, 0, 0, 0, 0, 0, 0⟩ ∧ t.tmoEn = true ∧ t.tmoMs = 5000 ∧ t.st = .idle ∧
      t.tempSlot = none ∧ t.co2Slot = none ∧ t.resValid = false ∧ t.emitted = s.emitted ∧
      readT0 t = none ∧ hostStatus t = none ∧ hostSingle t = none ∧ hostComb t = none ∧ hostErr t = none ∧
      ∀ (w : BitVec 72) (e : Config.TransportError), exec (decode (.rsp w e)) t = .refused .responseWhileIdle

/-- 70_reset_and_hazards.md §1: the machine right after reset: the values the spec gives, and nothing readable where it gives
none. -/
def Obligations.ResetStateValues : Prop :=
  State.reset.key = ⟨0, 0, 0, 0, 0, 0, 0, 0⟩ ∧ State.reset.tmoEn = true ∧ State.reset.tmoMs = 5000 ∧ State.reset.st = .idle ∧
  State.reset.tempSlot = none ∧ State.reset.co2Slot = none ∧ State.reset.resValid = false ∧
  readT0 State.reset = none ∧ hostStatus State.reset = none ∧ hostSingle State.reset = none ∧
  hostComb State.reset = none ∧ hostErr State.reset = none

/-- 10_state.md §1 and §5: a host reads `ST` and `RES_VALID` at any time and the other result registers exactly while
`RES_VALID = 1`, and then reads what they hold; the scaled outputs and the kind code are those of the reading held; the codes of
`ST`, of the status and of the kind are those of 10_state.md §3 and 30_encoding.md §4. That a host read is a function of the state
and not a move is the model's inference (log entry 21). -/
def Obligations.HostReadsOnlyValidResults : Prop :=
  (∀ s : State, hostState s = s.st ∧ hostValid s = s.resValid) ∧
  (∀ s : State, s.resValid = false →
    hostStatus s = none ∧ hostSingle s = none ∧ hostComb s = none ∧ hostErr s = none ∧
    resSingleReal s = none ∧ resSingleF32 s = none ∧ singleKindCode s = none ∧ resCombTempF32 s = none) ∧
  (∀ s : State, s.resValid = true →
    hostStatus s = some s.resStatus ∧ hostSingle s = some s.resSingle ∧ hostComb s = some s.resComb ∧
    hostErr s = some s.resErr) ∧
  (∀ (s : State) (w c : Value), s.resValid = true → s.resComb = some (w, c) → resCombTempF32 s = some (tempF32 w)) ∧
  (∀ s : State, s.resComb = none → resCombTempF32 s = none) ∧
  (∀ (s : State) (v : Value), s.resValid = true → s.resSingle = some (0x41, v) →
    resSingleReal s = some ((v.toNat : Rat) / 100) ∧ resSingleF32 s = some (humF32 v) ∧ singleKindCode s = some 0) ∧
  (∀ (s : State) (v : Value), s.resValid = true → s.resSingle = some (0x42, v) →
    resSingleReal s = some ((v.toNat : Rat) / 16 - 27315 / 100) ∧ resSingleF32 s = some (tempF32 v) ∧
    singleKindCode s = some 1) ∧
  (∀ (s : State) (v : Value), s.resValid = true → s.resSingle = some (0x50, v) →
    resSingleReal s = some (v.toNat : Rat) ∧ resSingleF32 s = none ∧ singleKindCode s = some 2) ∧
  (∀ (s : State) (tag : Byte) (v : Value), s.resValid = true → s.resSingle = some (tag, v) →
    tag ≠ 0x41 → tag ≠ 0x42 → tag ≠ 0x50 →
    resSingleReal s = none ∧ resSingleF32 s = none ∧ singleKindCode s = some 3) ∧
  (∀ s : State, s.resSingle = none → resSingleReal s = none ∧ resSingleF32 s = none ∧ singleKindCode s = none) ∧
  [stateCode .idle, stateCode .busyOne, stateCode .busyComb] = [0, 1, 2] ∧
  [statusCode .ok, statusCode .invalidMessage, statusCode .checksum, statusCode .timeout, statusCode .invalidTimeout,
    statusCode .transport] = [0, 1, 2, 3, 4, 5]

/-- 42_accumulator.md §6 (R188; that the time input is held up rather than refused is the model's choice, log entry 4): within a
READ_COMBINED the time input never falls and `T0` stays, and every later value can be drawn. -/
def Obligations.TimeNeverFallsInReadCombined : Prop :=
  (∀ s t : State, s.st = .busyComb → t.st = .busyComb → step s = .next t → s.now ≤ t.now ∧ t.t0 = s.t0) ∧
  (∀ (s : State) (now : Nat) (rest : List Input), s.st = .busyComb → s.cmdPort = none → s.now ≤ now →
    s.inputs = .tick now :: rest → ∃ t, step s = .next t ∧ t.now = now ∧ t.st = .busyComb)

/-- 42_accumulator.md §6 (R193): a busy RA that nothing answers waits for ever, whatever is held on its port (steps
without a move, and surroundings that never move again: log entries 2, 3 and 24). -/
def Obligations.BusyWaitsWithoutBound : Prop :=
  ∀ (n : Nat) (s : State), s.st ≠ .idle → s.inputs = [] → s.after = .silent → (∀ c, s.cmdPort = some c → c.op ≠ 0b11) →
    Host.Core.run Sys2Proof.core n s = .next s

/-- 42_accumulator.md §5, 70_reset_and_hazards.md §3 (R185, R257): with no deadline, a READ_COMBINED whose sensor never sends a
Temperature can go on for any number of responses, and there are surroundings under which it goes on without end: every step is a
response that is answered with a request that carries -1. (How endless surroundings are written is log entry 24.) -/
def Obligations.UnboundedLoopIsAdmitted : Prop :=
  (∀ (n : Nat) (s : State), s.st = .busyComb → s.tmoEn = false → s.tempSlot = none →
    ∃ fs : List (Bytes8 × Nat), fs.length = n ∧
      ∃ t, Host.Core.run Sys2Proof.core n { s with inputs := fs.map frameInput } = .next t ∧ t.st = .busyComb) ∧
  (∀ s : State, s.st = .busyComb → s.tmoEn = false → s.tempSlot = none → s.inputs = [] →
    ∃ fs : List (Bytes8 × Nat), ∀ n : Nat,
      ∃ t, Host.Core.run Sys2Proof.core n { s with after := .repeated (fs.map frameInput) } = .next t ∧
        t.st = .busyComb ∧ t.emitted = List.replicate n (.request (BitVec.ofInt 32 (-1))) ++ s.emitted)

/-- 10_state.md, 42_accumulator.md, 70_reset_and_hazards.md §1: the invariant holds right after reset. Its clauses single_ok, comb_ok
and err_transport read RES_STATUS, RES_SINGLE, RES_COMB and RES_ERR there, which R250 leaves unspecified (D29): they hold of the values
OK, none, none and none, which are the model's choice (log entry 10). -/
def Obligations.ResetMeetsInvariant : Prop := CoreInv State.reset

/-- 10_state.md, 42_accumulator.md: every step keeps the invariant, from every state that meets it. The step that takes the reset
input keeps the clauses single_ok, comb_ok and err_transport only through the values that the model chooses for the result registers,
which R250 leaves unspecified (log entry 10), and that reset writes again (log entry 11); and these three clauses read the result
registers while RES_VALID = 0 too, where they hold no value by D29 and the model keeps their fields' old contents (log entry 10). -/
def Obligations.StepKeepsInvariant : Prop :=
  ∀ s t : State, CoreInv s → step s = .next t → CoreInv t

/-- 42_accumulator.md §6 (R191 a and b), §4: a READ_COMBINED fed with any readings holds the most recent of each kind while it
goes on; if it has ended with OK, both kinds have been seen and the result is the most recent of each; if it has ended with
TIMEOUT, a kind is still missing and the elapsed time is over the budget; and it has ended in no other way. (That responses
and times are moves on a schedule is the model's choice, log entries 2 and 4.) -/
def Obligations.CombinedRunKeepsMostRecentOfEach : Prop :=
  ∀ (s t : State) (fs : List (Bytes8 × Nat)) (rs : List Reading),
    s.st = .busyComb → s.tempSlot = none → s.co2Slot = none → s.inputs = fs.map frameInput →
    fs.map (fun f => frameResult s.key f.1) = rs.map DecodeResult.ok →
    Host.Core.run Sys2Proof.core fs.length s = .next t →
    (t.st = .busyComb ∧ t.tempSlot = lastTemperature rs ∧ t.co2Slot = lastCo2 rs) ∨
    (t.st = .idle ∧ t.resStatus = .ok ∧
      ∃ w c, lastTemperature rs = some w ∧ lastCo2 rs = some c ∧ t.resComb = some (w, c)) ∨
    (t.st = .idle ∧ t.resStatus = .timeout ∧ (lastTemperature rs = none ∨ lastCo2 rs = none) ∧ s.tmoEn = true ∧
      s.tmoMs.toNat * Config.upm < t.now - s.t0)

/-- 10_state.md §5, 30_encoding.md §3 (R32, R85): the CORE passes an error value on and never looks into it: replacing error values
by others, the same ones by the same ones, replaces them in the outcome and changes nothing else, in decoding and in every
instruction. So what the CORE does is the same whatever the transport's error type is (log entry 7). -/
def Obligations.ErrorValuesAreNotInspected : Prop :=
  (∀ (g : Config.TransportError → Config.TransportError) (w : BitVec 72) (e : Config.TransportError),
    decode (.rsp w (g e)) = renameError g (decode (.rsp w e))) ∧
  (∀ (g : Config.TransportError → Config.TransportError) (i : Instr) (s : State),
    exec (renameError g i) (renameHeldError g s) =
      match exec i s with
      | .next t => .next (renameHeldError g t)
      | .fault r => .fault r
      | .refused r => .refused r)
end

