-- ==== Sys2Proof/Laws/Bits.lean ====
section
/-!
SUPPORT. The word views are inverse to each other, and a response word gives its fields back.
-/
namespace Sys2Proof.Machine

@[simp] theorem wordView_bytesView (w : BitVec 64) : wordView (bytesView w) = w := by
  unfold wordView bytesView
  ext i hi
  simp only [BitVec.getElem_append, BitVec.getElem_extractLsb']
  repeat' split
  all_goals (rw [← BitVec.getLsbD_eq_getElem]; congr 1; omega)

@[simp] theorem bytesView_wordView (f : Bytes8) : bytesView (wordView f) = f := by
  obtain ⟨b0, b1, b2, b3, b4, b5, b6, b7⟩ := f
  simp only [wordView, bytesView, Bytes8.mk.injEq]
  refine ⟨?_, ?_, ?_, ?_, ?_, ?_, ?_, ?_⟩ <;> ext i hi <;> simp only [BitVec.getElem_extractLsb', BitVec.getLsbD_append]
  all_goals (repeat' split)
  all_goals first | omega | (rw [← BitVec.getLsbD_eq_getElem]; congr 1; omega)

@[simp] theorem packetWord_packetOfWord (w : BitVec 40) : packetWord (packetOfWord w) = w := by
  unfold packetWord packetOfWord
  ext i hi
  simp only [BitVec.getElem_append, BitVec.getElem_extractLsb']
  repeat' split
  all_goals (rw [← BitVec.getLsbD_eq_getElem]; congr 1; omega)

@[simp] theorem packetOfWord_packetWord (p : Packet) : packetOfWord (packetWord p) = p := by
  obtain ⟨a, b, c, d, e⟩ := p
  simp only [packetWord, packetOfWord, Packet.mk.injEq]
  refine ⟨?_, ?_, ?_, ?_, ?_⟩ <;> ext i hi <;> simp only [BitVec.getElem_extractLsb', BitVec.getLsbD_append]
  all_goals (repeat' split)
  all_goals first | omega | (rw [← BitVec.getLsbD_eq_getElem]; congr 1; omega)

@[simp] theorem rspErrBit_rspWord (e : BitVec 1) (r : BitVec 3) (c : BitVec 4) (d : Bytes8) :
    rspErrBit (rspWord e r c d) = e := by
  unfold rspErrBit rspWord
  ext i hi
  simp only [BitVec.getElem_extractLsb', BitVec.getLsbD_append]
  repeat' split
  all_goals first | omega | (rw [← BitVec.getLsbD_eq_getElem]; congr 1; omega)

@[simp] theorem rspReservedBits_rspWord (e : BitVec 1) (r : BitVec 3) (c : BitVec 4) (d : Bytes8) :
    rspReservedBits (rspWord e r c d) = r := by
  unfold rspReservedBits rspWord
  ext i hi
  simp only [BitVec.getElem_extractLsb', BitVec.getLsbD_append]
  repeat' split
  all_goals first | omega | (rw [← BitVec.getLsbD_eq_getElem]; congr 1; omega)

@[simp] theorem rspCount_rspWord (e : BitVec 1) (r : BitVec 3) (c : BitVec 4) (d : Bytes8) :
    rspCount (rspWord e r c d) = c := by
  unfold rspCount rspWord
  ext i hi
  simp only [BitVec.getElem_extractLsb', BitVec.getLsbD_append]
  repeat' split
  all_goals first | omega | (rw [← BitVec.getLsbD_eq_getElem]; congr 1; omega)

@[simp] theorem rspData_rspWord (e : BitVec 1) (r : BitVec 3) (c : BitVec 4) (d : Bytes8) :
    rspData (rspWord e r c d) = d := by
  have h : (rspWord e r c d).extractLsb' 0 64 = wordView d := by
    unfold rspWord
    ext i hi
    simp only [BitVec.getElem_extractLsb', BitVec.getLsbD_append]
    split
    · rw [← BitVec.getLsbD_eq_getElem]; congr 1; omega
    · omega
  rw [rspData, h, bytesView_wordView]

/-- A response word is its four fields. -/
theorem rspWord_fields (w : BitVec 72) : rspWord (rspErrBit w) (rspReservedBits w) (rspCount w) (rspData w) = w := by
  unfold rspWord rspData rspErrBit rspReservedBits rspCount
  rw [wordView_bytesView]
  ext i hi
  simp only [BitVec.getElem_append, BitVec.getElem_extractLsb']
  repeat' split
  all_goals (rw [← BitVec.getLsbD_eq_getElem]; congr 1; omega)

end Sys2Proof.Machine
end

