-- ==== Sys2Proof/Laws/State.lean ====
section
/-!
SUPPORT. One lemma per field per update: what each shared operation leaves in each field of State.
-/
namespace Sys2Proof.Machine

@[simp] theorem finish_key (v : Status) (a : Option (Byte × Value)) (b : Option (Value × Value)) (e : Option Config.TransportError) (s : State) : (finish v a b e s).key = s.key := rfl
@[simp] theorem finish_tmoEn (v : Status) (a : Option (Byte × Value)) (b : Option (Value × Value)) (e : Option Config.TransportError) (s : State) : (finish v a b e s).tmoEn = s.tmoEn := rfl
@[simp] theorem finish_tmoMs (v : Status) (a : Option (Byte × Value)) (b : Option (Value × Value)) (e : Option Config.TransportError) (s : State) : (finish v a b e s).tmoMs = s.tmoMs := rfl
@[simp] theorem finish_st (v : Status) (a : Option (Byte × Value)) (b : Option (Value × Value)) (e : Option Config.TransportError) (s : State) : (finish v a b e s).st = .idle := rfl
@[simp] theorem finish_t0 (v : Status) (a : Option (Byte × Value)) (b : Option (Value × Value)) (e : Option Config.TransportError) (s : State) : (finish v a b e s).t0 = s.t0 := rfl
@[simp] theorem finish_tempSlot (v : Status) (a : Option (Byte × Value)) (b : Option (Value × Value)) (e : Option Config.TransportError) (s : State) : (finish v a b e s).tempSlot = s.tempSlot := rfl
@[simp] theorem finish_co2Slot (v : Status) (a : Option (Byte × Value)) (b : Option (Value × Value)) (e : Option Config.TransportError) (s : State) : (finish v a b e s).co2Slot = s.co2Slot := rfl
@[simp] theorem finish_resValid (v : Status) (a : Option (Byte × Value)) (b : Option (Value × Value)) (e : Option Config.TransportError) (s : State) : (finish v a b e s).resValid = true := rfl
@[simp] theorem finish_resStatus (v : Status) (a : Option (Byte × Value)) (b : Option (Value × Value)) (e : Option Config.TransportError) (s : State) : (finish v a b e s).resStatus = v := rfl
@[simp] theorem finish_resSingle (v : Status) (a : Option (Byte × Value)) (b : Option (Value × Value)) (e : Option Config.TransportError) (s : State) : (finish v a b e s).resSingle = a := rfl
@[simp] theorem finish_resComb (v : Status) (a : Option (Byte × Value)) (b : Option (Value × Value)) (e : Option Config.TransportError) (s : State) : (finish v a b e s).resComb = b := rfl
@[simp] theorem finish_resErr (v : Status) (a : Option (Byte × Value)) (b : Option (Value × Value)) (e : Option Config.TransportError) (s : State) : (finish v a b e s).resErr = e := rfl
@[simp] theorem finish_t0Held (v : Status) (a : Option (Byte × Value)) (b : Option (Value × Value)) (e : Option Config.TransportError) (s : State) : (finish v a b e s).t0Held = s.t0Held := rfl
@[simp] theorem finish_now (v : Status) (a : Option (Byte × Value)) (b : Option (Value × Value)) (e : Option Config.TransportError) (s : State) : (finish v a b e s).now = s.now := rfl
@[simp] theorem finish_cmdPort (v : Status) (a : Option (Byte × Value)) (b : Option (Value × Value)) (e : Option Config.TransportError) (s : State) : (finish v a b e s).cmdPort = s.cmdPort := rfl
@[simp] theorem finish_inputs (v : Status) (a : Option (Byte × Value)) (b : Option (Value × Value)) (e : Option Config.TransportError) (s : State) : (finish v a b e s).inputs = s.inputs := rfl
@[simp] theorem finish_after (v : Status) (a : Option (Byte × Value)) (b : Option (Value × Value)) (e : Option Config.TransportError) (s : State) : (finish v a b e s).after = s.after := rfl
@[simp] theorem finish_emitted (v : Status) (a : Option (Byte × Value)) (b : Option (Value × Value)) (e : Option Config.TransportError) (s : State) : (finish v a b e s).emitted = s.emitted := rfl

@[simp] theorem setResult_key (v : Status) (s : State) : (setResult v s).key = s.key := rfl
@[simp] theorem setResult_tmoEn (v : Status) (s : State) : (setResult v s).tmoEn = s.tmoEn := rfl
@[simp] theorem setResult_tmoMs (v : Status) (s : State) : (setResult v s).tmoMs = s.tmoMs := rfl
@[simp] theorem setResult_st (v : Status) (s : State) : (setResult v s).st = s.st := rfl
@[simp] theorem setResult_t0 (v : Status) (s : State) : (setResult v s).t0 = s.t0 := rfl
@[simp] theorem setResult_tempSlot (v : Status) (s : State) : (setResult v s).tempSlot = s.tempSlot := rfl
@[simp] theorem setResult_co2Slot (v : Status) (s : State) : (setResult v s).co2Slot = s.co2Slot := rfl
@[simp] theorem setResult_resValid (v : Status) (s : State) : (setResult v s).resValid = true := rfl
@[simp] theorem setResult_resStatus (v : Status) (s : State) : (setResult v s).resStatus = v := rfl
@[simp] theorem setResult_resSingle (v : Status) (s : State) : (setResult v s).resSingle = none := rfl
@[simp] theorem setResult_resComb (v : Status) (s : State) : (setResult v s).resComb = none := rfl
@[simp] theorem setResult_resErr (v : Status) (s : State) : (setResult v s).resErr = none := rfl
@[simp] theorem setResult_t0Held (v : Status) (s : State) : (setResult v s).t0Held = s.t0Held := rfl
@[simp] theorem setResult_now (v : Status) (s : State) : (setResult v s).now = s.now := rfl
@[simp] theorem setResult_cmdPort (v : Status) (s : State) : (setResult v s).cmdPort = s.cmdPort := rfl
@[simp] theorem setResult_inputs (v : Status) (s : State) : (setResult v s).inputs = s.inputs := rfl
@[simp] theorem setResult_after (v : Status) (s : State) : (setResult v s).after = s.after := rfl
@[simp] theorem setResult_emitted (v : Status) (s : State) : (setResult v s).emitted = s.emitted := rfl

@[simp] theorem emit_key (e : Emission) (s : State) : (emit e s).key = s.key := rfl
@[simp] theorem emit_tmoEn (e : Emission) (s : State) : (emit e s).tmoEn = s.tmoEn := rfl
@[simp] theorem emit_tmoMs (e : Emission) (s : State) : (emit e s).tmoMs = s.tmoMs := rfl
@[simp] theorem emit_st (e : Emission) (s : State) : (emit e s).st = s.st := rfl
@[simp] theorem emit_t0 (e : Emission) (s : State) : (emit e s).t0 = s.t0 := rfl
@[simp] theorem emit_tempSlot (e : Emission) (s : State) : (emit e s).tempSlot = s.tempSlot := rfl
@[simp] theorem emit_co2Slot (e : Emission) (s : State) : (emit e s).co2Slot = s.co2Slot := rfl
@[simp] theorem emit_resValid (e : Emission) (s : State) : (emit e s).resValid = s.resValid := rfl
@[simp] theorem emit_resStatus (e : Emission) (s : State) : (emit e s).resStatus = s.resStatus := rfl
@[simp] theorem emit_resSingle (e : Emission) (s : State) : (emit e s).resSingle = s.resSingle := rfl
@[simp] theorem emit_resComb (e : Emission) (s : State) : (emit e s).resComb = s.resComb := rfl
@[simp] theorem emit_resErr (e : Emission) (s : State) : (emit e s).resErr = s.resErr := rfl
@[simp] theorem emit_t0Held (e : Emission) (s : State) : (emit e s).t0Held = s.t0Held := rfl
@[simp] theorem emit_now (e : Emission) (s : State) : (emit e s).now = s.now := rfl
@[simp] theorem emit_cmdPort (e : Emission) (s : State) : (emit e s).cmdPort = s.cmdPort := rfl
@[simp] theorem emit_inputs (e : Emission) (s : State) : (emit e s).inputs = s.inputs := rfl
@[simp] theorem emit_after (e : Emission) (s : State) : (emit e s).after = s.after := rfl
@[simp] theorem emit_emitted (e : Emission) (s : State) : (emit e s).emitted = e :: s.emitted := rfl

@[simp] theorem emitRequest_key (t : BitVec 32) (s : State) : (emitRequest t s).key = s.key := rfl
@[simp] theorem emitRequest_tmoEn (t : BitVec 32) (s : State) : (emitRequest t s).tmoEn = s.tmoEn := rfl
@[simp] theorem emitRequest_tmoMs (t : BitVec 32) (s : State) : (emitRequest t s).tmoMs = s.tmoMs := rfl
@[simp] theorem emitRequest_st (t : BitVec 32) (s : State) : (emitRequest t s).st = s.st := rfl
@[simp] theorem emitRequest_t0 (t : BitVec 32) (s : State) : (emitRequest t s).t0 = s.t0 := rfl
@[simp] theorem emitRequest_tempSlot (t : BitVec 32) (s : State) : (emitRequest t s).tempSlot = s.tempSlot := rfl
@[simp] theorem emitRequest_co2Slot (t : BitVec 32) (s : State) : (emitRequest t s).co2Slot = s.co2Slot := rfl
@[simp] theorem emitRequest_resValid (t : BitVec 32) (s : State) : (emitRequest t s).resValid = s.resValid := rfl
@[simp] theorem emitRequest_resStatus (t : BitVec 32) (s : State) : (emitRequest t s).resStatus = s.resStatus := rfl
@[simp] theorem emitRequest_resSingle (t : BitVec 32) (s : State) : (emitRequest t s).resSingle = s.resSingle := rfl
@[simp] theorem emitRequest_resComb (t : BitVec 32) (s : State) : (emitRequest t s).resComb = s.resComb := rfl
@[simp] theorem emitRequest_resErr (t : BitVec 32) (s : State) : (emitRequest t s).resErr = s.resErr := rfl
@[simp] theorem emitRequest_t0Held (t : BitVec 32) (s : State) : (emitRequest t s).t0Held = s.t0Held := rfl
@[simp] theorem emitRequest_now (t : BitVec 32) (s : State) : (emitRequest t s).now = s.now := rfl
@[simp] theorem emitRequest_cmdPort (t : BitVec 32) (s : State) : (emitRequest t s).cmdPort = s.cmdPort := rfl
@[simp] theorem emitRequest_inputs (t : BitVec 32) (s : State) : (emitRequest t s).inputs = s.inputs := rfl
@[simp] theorem emitRequest_after (t : BitVec 32) (s : State) : (emitRequest t s).after = s.after := rfl
@[simp] theorem emitRequest_emitted (t : BitVec 32) (s : State) : (emitRequest t s).emitted = .request t :: s.emitted := rfl

@[simp] theorem advanceTime_key (t : Nat) (s : State) : (advanceTime t s).key = s.key := rfl
@[simp] theorem advanceTime_tmoEn (t : Nat) (s : State) : (advanceTime t s).tmoEn = s.tmoEn := rfl
@[simp] theorem advanceTime_tmoMs (t : Nat) (s : State) : (advanceTime t s).tmoMs = s.tmoMs := rfl
@[simp] theorem advanceTime_st (t : Nat) (s : State) : (advanceTime t s).st = s.st := rfl
@[simp] theorem advanceTime_t0 (t : Nat) (s : State) : (advanceTime t s).t0 = s.t0 := rfl
@[simp] theorem advanceTime_tempSlot (t : Nat) (s : State) : (advanceTime t s).tempSlot = s.tempSlot := rfl
@[simp] theorem advanceTime_co2Slot (t : Nat) (s : State) : (advanceTime t s).co2Slot = s.co2Slot := rfl
@[simp] theorem advanceTime_resValid (t : Nat) (s : State) : (advanceTime t s).resValid = s.resValid := rfl
@[simp] theorem advanceTime_resStatus (t : Nat) (s : State) : (advanceTime t s).resStatus = s.resStatus := rfl
@[simp] theorem advanceTime_resSingle (t : Nat) (s : State) : (advanceTime t s).resSingle = s.resSingle := rfl
@[simp] theorem advanceTime_resComb (t : Nat) (s : State) : (advanceTime t s).resComb = s.resComb := rfl
@[simp] theorem advanceTime_resErr (t : Nat) (s : State) : (advanceTime t s).resErr = s.resErr := rfl
@[simp] theorem advanceTime_t0Held (t : Nat) (s : State) : (advanceTime t s).t0Held = s.t0Held := rfl
@[simp] theorem advanceTime_now (t : Nat) (s : State) : (advanceTime t s).now = if s.st = .busyComb then max s.now t else t := rfl
@[simp] theorem advanceTime_cmdPort (t : Nat) (s : State) : (advanceTime t s).cmdPort = s.cmdPort := rfl
@[simp] theorem advanceTime_inputs (t : Nat) (s : State) : (advanceTime t s).inputs = s.inputs := rfl
@[simp] theorem advanceTime_after (t : Nat) (s : State) : (advanceTime t s).after = s.after := rfl
@[simp] theorem advanceTime_emitted (t : Nat) (s : State) : (advanceTime t s).emitted = s.emitted := rfl

@[simp] theorem popInput_key (r : List Input) (s : State) : (popInput r s).key = s.key := rfl
@[simp] theorem popInput_tmoEn (r : List Input) (s : State) : (popInput r s).tmoEn = s.tmoEn := rfl
@[simp] theorem popInput_tmoMs (r : List Input) (s : State) : (popInput r s).tmoMs = s.tmoMs := rfl
@[simp] theorem popInput_st (r : List Input) (s : State) : (popInput r s).st = s.st := rfl
@[simp] theorem popInput_t0 (r : List Input) (s : State) : (popInput r s).t0 = s.t0 := rfl
@[simp] theorem popInput_tempSlot (r : List Input) (s : State) : (popInput r s).tempSlot = s.tempSlot := rfl
@[simp] theorem popInput_co2Slot (r : List Input) (s : State) : (popInput r s).co2Slot = s.co2Slot := rfl
@[simp] theorem popInput_resValid (r : List Input) (s : State) : (popInput r s).resValid = s.resValid := rfl
@[simp] theorem popInput_resStatus (r : List Input) (s : State) : (popInput r s).resStatus = s.resStatus := rfl
@[simp] theorem popInput_resSingle (r : List Input) (s : State) : (popInput r s).resSingle = s.resSingle := rfl
@[simp] theorem popInput_resComb (r : List Input) (s : State) : (popInput r s).resComb = s.resComb := rfl
@[simp] theorem popInput_resErr (r : List Input) (s : State) : (popInput r s).resErr = s.resErr := rfl
@[simp] theorem popInput_t0Held (r : List Input) (s : State) : (popInput r s).t0Held = s.t0Held := rfl
@[simp] theorem popInput_now (r : List Input) (s : State) : (popInput r s).now = s.now := rfl
@[simp] theorem popInput_cmdPort (r : List Input) (s : State) : (popInput r s).cmdPort = s.cmdPort := rfl
@[simp] theorem popInput_inputs (r : List Input) (s : State) : (popInput r s).inputs = r := rfl
@[simp] theorem popInput_after (r : List Input) (s : State) : (popInput r s).after = s.after := rfl
@[simp] theorem popInput_emitted (r : List Input) (s : State) : (popInput r s).emitted = s.emitted := rfl

@[simp] theorem settlePort_key (c : CmdWord) (s : State) : (settlePort c s).key = s.key := rfl
@[simp] theorem settlePort_tmoEn (c : CmdWord) (s : State) : (settlePort c s).tmoEn = s.tmoEn := rfl
@[simp] theorem settlePort_tmoMs (c : CmdWord) (s : State) : (settlePort c s).tmoMs = s.tmoMs := rfl
@[simp] theorem settlePort_st (c : CmdWord) (s : State) : (settlePort c s).st = s.st := rfl
@[simp] theorem settlePort_t0 (c : CmdWord) (s : State) : (settlePort c s).t0 = s.t0 := rfl
@[simp] theorem settlePort_tempSlot (c : CmdWord) (s : State) : (settlePort c s).tempSlot = s.tempSlot := rfl
@[simp] theorem settlePort_co2Slot (c : CmdWord) (s : State) : (settlePort c s).co2Slot = s.co2Slot := rfl
@[simp] theorem settlePort_resValid (c : CmdWord) (s : State) : (settlePort c s).resValid = s.resValid := rfl
@[simp] theorem settlePort_resStatus (c : CmdWord) (s : State) : (settlePort c s).resStatus = s.resStatus := rfl
@[simp] theorem settlePort_resSingle (c : CmdWord) (s : State) : (settlePort c s).resSingle = s.resSingle := rfl
@[simp] theorem settlePort_resComb (c : CmdWord) (s : State) : (settlePort c s).resComb = s.resComb := rfl
@[simp] theorem settlePort_resErr (c : CmdWord) (s : State) : (settlePort c s).resErr = s.resErr := rfl
@[simp] theorem settlePort_t0Held (c : CmdWord) (s : State) : (settlePort c s).t0Held = s.t0Held := rfl
@[simp] theorem settlePort_now (c : CmdWord) (s : State) : (settlePort c s).now = s.now := rfl
@[simp] theorem settlePort_cmdPort (c : CmdWord) (s : State) : (settlePort c s).cmdPort = if s.st = .idle then none else some c := rfl
@[simp] theorem settlePort_inputs (c : CmdWord) (s : State) : (settlePort c s).inputs = s.inputs := rfl
@[simp] theorem settlePort_after (c : CmdWord) (s : State) : (settlePort c s).after = s.after := rfl
@[simp] theorem settlePort_emitted (c : CmdWord) (s : State) : (settlePort c s).emitted = s.emitted := rfl

@[simp] theorem withdrawCommand_key (s : State) : (withdrawCommand s).key = s.key := rfl
@[simp] theorem withdrawCommand_tmoEn (s : State) : (withdrawCommand s).tmoEn = s.tmoEn := rfl
@[simp] theorem withdrawCommand_tmoMs (s : State) : (withdrawCommand s).tmoMs = s.tmoMs := rfl
@[simp] theorem withdrawCommand_st (s : State) : (withdrawCommand s).st = s.st := rfl
@[simp] theorem withdrawCommand_t0 (s : State) : (withdrawCommand s).t0 = s.t0 := rfl
@[simp] theorem withdrawCommand_tempSlot (s : State) : (withdrawCommand s).tempSlot = s.tempSlot := rfl
@[simp] theorem withdrawCommand_co2Slot (s : State) : (withdrawCommand s).co2Slot = s.co2Slot := rfl
@[simp] theorem withdrawCommand_resValid (s : State) : (withdrawCommand s).resValid = s.resValid := rfl
@[simp] theorem withdrawCommand_resStatus (s : State) : (withdrawCommand s).resStatus = s.resStatus := rfl
@[simp] theorem withdrawCommand_resSingle (s : State) : (withdrawCommand s).resSingle = s.resSingle := rfl
@[simp] theorem withdrawCommand_resComb (s : State) : (withdrawCommand s).resComb = s.resComb := rfl
@[simp] theorem withdrawCommand_resErr (s : State) : (withdrawCommand s).resErr = s.resErr := rfl
@[simp] theorem withdrawCommand_t0Held (s : State) : (withdrawCommand s).t0Held = s.t0Held := rfl
@[simp] theorem withdrawCommand_now (s : State) : (withdrawCommand s).now = s.now := rfl
@[simp] theorem withdrawCommand_cmdPort (s : State) : (withdrawCommand s).cmdPort = none := rfl
@[simp] theorem withdrawCommand_inputs (s : State) : (withdrawCommand s).inputs = s.inputs := rfl
@[simp] theorem withdrawCommand_after (s : State) : (withdrawCommand s).after = s.after := rfl
@[simp] theorem withdrawCommand_emitted (s : State) : (withdrawCommand s).emitted = s.emitted := rfl

@[simp] theorem resetRegisters_key (s : State) : (resetRegisters s).key = defaultKey := rfl
@[simp] theorem resetRegisters_tmoEn (s : State) : (resetRegisters s).tmoEn = true := rfl
@[simp] theorem resetRegisters_tmoMs (s : State) : (resetRegisters s).tmoMs = 5000 := rfl
@[simp] theorem resetRegisters_st (s : State) : (resetRegisters s).st = .idle := rfl
@[simp] theorem resetRegisters_t0 (s : State) : (resetRegisters s).t0 = 0 := rfl
@[simp] theorem resetRegisters_tempSlot (s : State) : (resetRegisters s).tempSlot = none := rfl
@[simp] theorem resetRegisters_co2Slot (s : State) : (resetRegisters s).co2Slot = none := rfl
@[simp] theorem resetRegisters_resValid (s : State) : (resetRegisters s).resValid = false := rfl
@[simp] theorem resetRegisters_resStatus (s : State) : (resetRegisters s).resStatus = .ok := rfl
@[simp] theorem resetRegisters_resSingle (s : State) : (resetRegisters s).resSingle = none := rfl
@[simp] theorem resetRegisters_resComb (s : State) : (resetRegisters s).resComb = none := rfl
@[simp] theorem resetRegisters_resErr (s : State) : (resetRegisters s).resErr = none := rfl
@[simp] theorem resetRegisters_t0Held (s : State) : (resetRegisters s).t0Held = false := rfl
@[simp] theorem resetRegisters_now (s : State) : (resetRegisters s).now = s.now := rfl
@[simp] theorem resetRegisters_cmdPort (s : State) : (resetRegisters s).cmdPort = s.cmdPort := rfl
@[simp] theorem resetRegisters_inputs (s : State) : (resetRegisters s).inputs = s.inputs := rfl
@[simp] theorem resetRegisters_after (s : State) : (resetRegisters s).after = s.after := rfl
@[simp] theorem resetRegisters_emitted (s : State) : (resetRegisters s).emitted = s.emitted := rfl

@[simp] theorem startReadOne_key (s : State) : (startReadOne s).key = s.key := rfl
@[simp] theorem startReadOne_tmoEn (s : State) : (startReadOne s).tmoEn = s.tmoEn := rfl
@[simp] theorem startReadOne_tmoMs (s : State) : (startReadOne s).tmoMs = s.tmoMs := rfl
@[simp] theorem startReadOne_st (s : State) : (startReadOne s).st = .busyOne := rfl
@[simp] theorem startReadOne_t0 (s : State) : (startReadOne s).t0 = s.t0 := rfl
@[simp] theorem startReadOne_tempSlot (s : State) : (startReadOne s).tempSlot = s.tempSlot := rfl
@[simp] theorem startReadOne_co2Slot (s : State) : (startReadOne s).co2Slot = s.co2Slot := rfl
@[simp] theorem startReadOne_resValid (s : State) : (startReadOne s).resValid = false := rfl
@[simp] theorem startReadOne_resStatus (s : State) : (startReadOne s).resStatus = s.resStatus := rfl
@[simp] theorem startReadOne_resSingle (s : State) : (startReadOne s).resSingle = s.resSingle := rfl
@[simp] theorem startReadOne_resComb (s : State) : (startReadOne s).resComb = s.resComb := rfl
@[simp] theorem startReadOne_resErr (s : State) : (startReadOne s).resErr = s.resErr := rfl
@[simp] theorem startReadOne_t0Held (s : State) : (startReadOne s).t0Held = s.t0Held := rfl
@[simp] theorem startReadOne_now (s : State) : (startReadOne s).now = s.now := rfl
@[simp] theorem startReadOne_cmdPort (s : State) : (startReadOne s).cmdPort = s.cmdPort := rfl
@[simp] theorem startReadOne_inputs (s : State) : (startReadOne s).inputs = s.inputs := rfl
@[simp] theorem startReadOne_after (s : State) : (startReadOne s).after = s.after := rfl
@[simp] theorem startReadOne_emitted (s : State) : (startReadOne s).emitted = .request (readTimeoutArg s.tmoEn s.tmoMs) :: s.emitted := rfl

@[simp] theorem startReadCombined_key (s : State) : (startReadCombined s).key = s.key := rfl
@[simp] theorem startReadCombined_tmoEn (s : State) : (startReadCombined s).tmoEn = s.tmoEn := rfl
@[simp] theorem startReadCombined_tmoMs (s : State) : (startReadCombined s).tmoMs = s.tmoMs := rfl
@[simp] theorem startReadCombined_st (s : State) : (startReadCombined s).st = .busyComb := rfl
@[simp] theorem startReadCombined_t0 (s : State) : (startReadCombined s).t0 = s.now := rfl
@[simp] theorem startReadCombined_tempSlot (s : State) : (startReadCombined s).tempSlot = none := rfl
@[simp] theorem startReadCombined_co2Slot (s : State) : (startReadCombined s).co2Slot = none := rfl
@[simp] theorem startReadCombined_resValid (s : State) : (startReadCombined s).resValid = false := rfl
@[simp] theorem startReadCombined_resStatus (s : State) : (startReadCombined s).resStatus = s.resStatus := rfl
@[simp] theorem startReadCombined_resSingle (s : State) : (startReadCombined s).resSingle = s.resSingle := rfl
@[simp] theorem startReadCombined_resComb (s : State) : (startReadCombined s).resComb = s.resComb := rfl
@[simp] theorem startReadCombined_resErr (s : State) : (startReadCombined s).resErr = s.resErr := rfl
@[simp] theorem startReadCombined_t0Held (s : State) : (startReadCombined s).t0Held = true := rfl
@[simp] theorem startReadCombined_now (s : State) : (startReadCombined s).now = s.now := rfl
@[simp] theorem startReadCombined_cmdPort (s : State) : (startReadCombined s).cmdPort = s.cmdPort := rfl
@[simp] theorem startReadCombined_inputs (s : State) : (startReadCombined s).inputs = s.inputs := rfl
@[simp] theorem startReadCombined_after (s : State) : (startReadCombined s).after = s.after := rfl
@[simp] theorem startReadCombined_emitted (s : State) : (startReadCombined s).emitted = .request (readTimeoutArg s.tmoEn s.tmoMs) :: s.emitted := rfl

@[simp] theorem continueLoop_key (s : State) : (continueLoop s).key = s.key := rfl
@[simp] theorem continueLoop_tmoEn (s : State) : (continueLoop s).tmoEn = s.tmoEn := rfl
@[simp] theorem continueLoop_tmoMs (s : State) : (continueLoop s).tmoMs = s.tmoMs := rfl
@[simp] theorem continueLoop_st (s : State) : (continueLoop s).st = s.st := rfl
@[simp] theorem continueLoop_t0 (s : State) : (continueLoop s).t0 = s.t0 := rfl
@[simp] theorem continueLoop_tempSlot (s : State) : (continueLoop s).tempSlot = s.tempSlot := rfl
@[simp] theorem continueLoop_co2Slot (s : State) : (continueLoop s).co2Slot = s.co2Slot := rfl
@[simp] theorem continueLoop_resValid (s : State) : (continueLoop s).resValid = s.resValid := rfl
@[simp] theorem continueLoop_resStatus (s : State) : (continueLoop s).resStatus = s.resStatus := rfl
@[simp] theorem continueLoop_resSingle (s : State) : (continueLoop s).resSingle = s.resSingle := rfl
@[simp] theorem continueLoop_resComb (s : State) : (continueLoop s).resComb = s.resComb := rfl
@[simp] theorem continueLoop_resErr (s : State) : (continueLoop s).resErr = s.resErr := rfl
@[simp] theorem continueLoop_t0Held (s : State) : (continueLoop s).t0Held = s.t0Held := rfl
@[simp] theorem continueLoop_now (s : State) : (continueLoop s).now = s.now := rfl
@[simp] theorem continueLoop_cmdPort (s : State) : (continueLoop s).cmdPort = s.cmdPort := rfl
@[simp] theorem continueLoop_inputs (s : State) : (continueLoop s).inputs = s.inputs := rfl
@[simp] theorem continueLoop_after (s : State) : (continueLoop s).after = s.after := rfl
@[simp] theorem continueLoop_emitted (s : State) : (continueLoop s).emitted = .request (readTimeoutArg s.tmoEn s.tmoMs) :: s.emitted := rfl

end Sys2Proof.Machine
end

