-- ==== Sys2Proof/Laws/Ops.lean ====
section
/-!
SUPPORT. What each shared operation can answer, once.
-/
namespace Sys2Proof.Machine

theorem whenIdle_idle {s : State} (h : s.st = .idle) (k : State → State) : whenIdle s k = .next (k s) := by
  simp [whenIdle, h]

theorem whenIdle_busy {s : State} (h : s.st ≠ .idle) (k : State → State) : whenIdle s k = .next s := by
  simp [whenIdle, h]

theorem whenBusy_idle {s : State} (h : s.st = .idle) (k : State → State) :
    whenBusy s k = .refused .responseWhileIdle := by
  simp [whenBusy, h]

theorem whenBusy_busy {s : State} (h : s.st ≠ .idle) (k : State → State) : whenBusy s k = .next (k s) := by
  simp [whenBusy, h]

/-- An accepted or held command gives a next state, and which one. -/
theorem whenIdle_next {s t : State} {k : State → State} (h : whenIdle s k = .next t) :
    (s.st = .idle ∧ t = k s) ∨ (s.st ≠ .idle ∧ t = s) := by
  unfold whenIdle at h
  split at h <;> simp_all

/-- A response that gives a next state was taken in a busy state. -/
theorem whenBusy_next {s t : State} {k : State → State} (h : whenBusy s k = .next t) : s.st ≠ .idle ∧ t = k s := by
  unfold whenBusy at h
  split at h <;> simp_all

/-- What CONFIGURE can leave (R172). -/
theorem configureState_cases (key : Bytes8) (en : Bool) (ms : BitVec 64) (s : State) :
    (en = true ∧ timeoutInRange ms = false ∧ configureState key en ms s = setResult .invalidTimeout s) ∨
    ((en = false ∨ timeoutInRange ms = true) ∧
      configureState key en ms s =
        setResult .ok { s with key := key, tmoEn := en, tmoMs := if en then tmoMsField ms else s.tmoMs }) := by
  unfold configureState
  cases en <;> cases timeoutInRange ms <;> simp

theorem completedPair_some {temp co2 : Option Value} {w c : Value} (h : completedPair temp co2 = some (w, c)) :
    temp = some w ∧ co2 = some c := by
  cases temp <;> cases co2 <;> simp_all [completedPair]

theorem completedPair_none {temp co2 : Option Value} (h : completedPair temp co2 = none) : temp = none ∨ co2 = none := by
  cases temp <;> cases co2 <;> simp_all [completedPair]

/-- The three ends of a step of the loop, in their order (R182, R183, R184). -/
theorem settleCombined_cases (s : State) :
    (∃ w c, s.tempSlot = some w ∧ s.co2Slot = some c ∧ settleCombined s = finish .ok none (some (w, c)) none s) ∨
    ((s.tempSlot = none ∨ s.co2Slot = none) ∧ timeoutExceeded s.tmoEn s.tmoMs s.t0 s.now = true ∧
      settleCombined s = finish .timeout none none none s) ∨
    ((s.tempSlot = none ∨ s.co2Slot = none) ∧ timeoutExceeded s.tmoEn s.tmoMs s.t0 s.now = false ∧
      settleCombined s = continueLoop s) := by
  unfold settleCombined drawNow
  rcases hp : completedPair s.tempSlot s.co2Slot with _ | ⟨w, c⟩
  · cases ht : timeoutExceeded s.tmoEn s.tmoMs s.t0 s.now <;> simp [completedPair_none hp]
  · exact .inl ⟨w, c, (completedPair_some hp).1, (completedPair_some hp).2, rfl⟩

/-- A slot update writes one slot or none, and nothing else (R181). -/
theorem updateSlots_cases (r : Reading) (s : State) :
    (∃ v, r = .temperature v ∧ updateSlots r s = { s with tempSlot := some v }) ∨
    (∃ v, r = .co2 v ∧ updateSlots r s = { s with co2Slot := some v }) ∨
    ((∀ v, r ≠ .temperature v) ∧ (∀ v, r ≠ .co2 v) ∧ updateSlots r s = s) := by
  cases r <;> simp [updateSlots]

/-- What a full frame does in a busy state (R178 to R184). -/
theorem takeFrame_cases (f : Bytes8) (s : State) :
    (∃ d, decodePacketBytes (framePacket f s.key) = .err d ∧ takeFrame f s = finish (errorStatus d) none none none s) ∨
    (∃ r, decodePacketBytes (framePacket f s.key) = .ok r ∧ s.st = .busyOne ∧
      takeFrame f s =
        finish .ok (some ((framePacket f s.key).tag, packetValue (framePacket f s.key))) none none s) ∨
    (∃ r, decodePacketBytes (framePacket f s.key) = .ok r ∧ s.st ≠ .busyOne ∧
      takeFrame f s = settleCombined (updateSlots r s)) := by
  unfold takeFrame takeReading
  rcases decodePacketBytes (framePacket f s.key) with r | d
  · by_cases h : s.st = .busyOne <;> simp [h]
  · exact .inl ⟨d, rfl, rfl⟩

theorem nextMove_listed {s : State} {m : Input} {rest : List Input} (h : s.inputs = m :: rest) :
    nextMove s = some (m, popInput rest s) := by
  simp [nextMove, h]

theorem nextMove_silent {s : State} (hi : s.inputs = []) (ha : s.after = .silent) : nextMove s = none := by
  simp [nextMove, hi, ha]

theorem nextMove_repeated {s : State} {m : Input} {rest : List Input} (hi : s.inputs = [])
    (ha : s.after = .repeated (m :: rest)) : nextMove s = some (m, popInput rest s) := by
  simp [nextMove, hi, ha]

/-- A move changes the schedule and nothing else when it is taken off. -/
theorem nextMove_some {s t : State} {m : Input} (h : nextMove s = some (m, t)) :
    ∃ rest aft, t = { s with inputs := rest, after := aft } := by
  unfold nextMove at h
  split at h <;> cases h <;> exact ⟨_, _, rfl⟩

/-- What meeting a move can be: a word in a state that differs in port and time, or no word. -/
theorem makeMove_cases (m : Input) (s : State) :
    (∃ w now port, makeMove m s = (some w, { advanceTime now s with cmdPort := port })) ∨
    (∃ now, makeMove m s = (none, advanceTime now s)) ∨
    (m = .withdraw ∧ makeMove m s = (none, withdrawCommand s)) ∨
    (m = .reset ∧ makeMove m s = (none, resetRegisters s)) := by
  cases m with
  | word w now => cases w <;> exact .inl ⟨_, now, _, rfl⟩
  | tick now =>
    rcases hc : s.cmdPort with _ | c
    · exact .inr (.inl ⟨now, by simp [makeMove, pollPort, hc]⟩)
    · exact .inl ⟨.cmd c, now, _, by simp [makeMove, pollPort, hc, settlePort]; rfl⟩
  | withdraw => exact .inr (.inr (.inl ⟨rfl, rfl⟩))
  | reset => exact .inr (.inr (.inr ⟨rfl, rfl⟩))

/-- Everything a fetch can be: the RA looks at its port, or a move is taken off the schedule and made. -/
theorem fetch_cases (s : State) :
    (nextMove s = none ∧ fetch s = pollPort s) ∨
    (∃ m rest aft, nextMove s = some (m, { s with inputs := rest, after := aft }) ∧
      fetch s = makeMove m { s with inputs := rest, after := aft }) := by
  unfold fetch
  rcases h : nextMove s with _ | ⟨m, t⟩
  · exact .inl ⟨rfl, rfl⟩
  · obtain ⟨rest, aft, rfl⟩ := nextMove_some h
    exact .inr ⟨m, rest, aft, rfl, rfl⟩

theorem fetch_listed {s : State} {m : Input} {rest : List Input} (h : s.inputs = m :: rest) :
    fetch s = makeMove m (popInput rest s) := by
  unfold fetch
  rw [nextMove_listed h]

theorem fetch_repeated {s : State} {m : Input} {rest : List Input} (hi : s.inputs = [])
    (ha : s.after = .repeated (m :: rest)) : fetch s = makeMove m (popInput rest s) := by
  unfold fetch
  rw [nextMove_repeated hi ha]

/-- A step that meets a word runs the decoded instruction where it is met. -/
theorem step_of_fetch_word {s t : State} {w : RawWord} (h : fetch s = (some w, t)) : step s = exec (decode w) t := by
  unfold step
  rw [h]

/-- A step that meets no word only moves the surroundings. -/
theorem step_of_fetch_none {s t : State} (h : fetch s = (none, t)) : step s = .next t := by
  unfold step
  rw [h]

end Sys2Proof.Machine
end

