-- ==== Sys2Proof/Laws/PerInstr.lean ====
section
/-!
SUPPORT. Per instruction: a raw word that decodes to it makes it well-formed, so no reserved word falls to a neighbour (30_encoding.md
R91).
-/
namespace Sys2Proof.Laws.DecodesWellFormed

open Sys2Proof.Machine

/-- Whatever raw word decodes to `i`, `i` is well-formed. -/
def Statement (i : Instr) : Prop := ∀ w : RawWord, decode w = i → i.WellFormed

/-- Every raw word decodes to a well-formed instruction. -/
theorem decode_wellFormed (w : RawWord) : (decode w).WellFormed := by
  cases w with
  | cmd c => simp only [decode, decodeCmd]; split_ifs <;> rfl
  | rsp w e =>
    simp only [decode, decodeRsp]
    split_ifs with h1 h2 h3
    · exact h1
    · rfl
    · exact decide_eq_true h3
    · rfl
  | frame w => simp only [decode, decodeFrame]; split_ifs with h <;> simp [Instr.WellFormed, Instr.wf, h]
  | fd row x key => cases row <;> rfl
  | packet w =>
    simp only [decode, decodePacket]
    split_ifs with h1 h2
    · rcases hk : kindOf (packetOfWord w).tag <;> simp [Instr.WellFormed, Instr.wf, hk]
    · simp [Instr.WellFormed, Instr.wf, h1, h2]
    · simp [Instr.WellFormed, Instr.wf, h1]

theorem statement_all (i : Instr) : Statement i := fun w h => h ▸ decode_wellFormed w

theorem configure (key : Bytes8) (tmoEn : Bool) (tmoMs : BitVec 64) : Statement (.configure key tmoEn tmoMs) := statement_all _
theorem readOne : Statement .readOne := statement_all _
theorem readCombined : Statement .readCombined := statement_all _
theorem cmdReserved : Statement .cmdReserved := statement_all _
theorem rspError (e : Config.TransportError) (count : BitVec 4) (data : Bytes8) : Statement (.rspError e count data) :=
  statement_all _
theorem rspShort (count : BitVec 4) (data : Bytes8) : Statement (.rspShort count data) := statement_all _
theorem rspFrame (data : Bytes8) : Statement (.rspFrame data) := statement_all _
theorem rspReserved (w : BitVec 72) (e : Config.TransportError) : Statement (.rspReserved w e) := statement_all _
theorem frameClear (f : Bytes8) : Statement (.frameClear f) := statement_all _
theorem frameEncrypted (f : Bytes8) : Statement (.frameEncrypted f) := statement_all _
theorem permute (x : Bytes8) : Statement (.permute x) := statement_all _
theorem xorKey (x key : Bytes8) : Statement (.xorKey x key) := statement_all _
theorem rotr3 (x : Bytes8) : Statement (.rotr3 x) := statement_all _
theorem subMask (x : Bytes8) : Statement (.subMask x) := statement_all _
theorem decrypt (x key : Bytes8) : Statement (.decrypt x key) := statement_all _
theorem pktInvalidMessage (p : Packet) : Statement (.pktInvalidMessage p) := statement_all _
theorem pktChecksum (p : Packet) : Statement (.pktChecksum p) := statement_all _
theorem pktHumidity (value : Value) : Statement (.pktHumidity value) := statement_all _
theorem pktTemperature (value : Value) : Statement (.pktTemperature value) := statement_all _
theorem pktCo2 (value : Value) : Statement (.pktCo2 value) := statement_all _
theorem pktUnknown (tag : Byte) (value : Value) : Statement (.pktUnknown tag value) := statement_all _

end Sys2Proof.Laws.DecodesWellFormed
end

