-- ==== Sys2Proof/Laws/Units.lean ====
section
/-!
SUPPORT. What each function of the FD and the PV can answer.
-/
namespace Sys2Proof.Machine

theorem selectBlock_clear {f : Bytes8} (h : f.b4 = 0x0D) (key : Bytes8) : selectBlock f key = f := by
  simp [selectBlock, isClearForm, terminatorByte, h]

theorem selectBlock_encrypted {f : Bytes8} (h : f.b4 ≠ 0x0D) (key : Bytes8) : selectBlock f key = decryptBytes f key := by
  simp_all [selectBlock, isClearForm, terminatorByte]

/-- The four kinds of a tag, each with the bytes it stands for. -/
theorem kindOf_cases (tag : Byte) :
    (tag = 0x41 ∧ kindOf tag = .humidity) ∨ (tag = 0x42 ∧ kindOf tag = .temperature) ∨
    (tag = 0x50 ∧ kindOf tag = .co2) ∨ (tag ≠ 0x41 ∧ tag ≠ 0x42 ∧ tag ≠ 0x50 ∧ kindOf tag = .unknown) := by
  unfold kindOf tagHumidity tagTemperature tagCo2
  split_ifs <;> simp_all

/-- What the PV can answer (R132, R133, R135). -/
theorem decodePacketBytes_cases (p : Packet) :
    (p.terminator ≠ 0x0D ∧ decodePacketBytes p = .err .invalidMessage) ∨
    (p.terminator = 0x0D ∧ p.checksum ≠ p.tag + p.valueHi + p.valueLo ∧ decodePacketBytes p = .err .checksum) ∨
    (p.terminator = 0x0D ∧ p.checksum = p.tag + p.valueHi + p.valueLo ∧
      decodePacketBytes p = .ok (readingOf p.tag (packetValue p))) := by
  unfold decodePacketBytes terminatorMatches checksumMatches terminatorByte packetSum
  by_cases ht : p.terminator = 0x0D <;> by_cases hc : p.checksum = p.tag + p.valueHi + p.valueLo <;> simp_all

/-- The comparator as a proposition (R183). -/
theorem timeoutExceeded_iff (en : Bool) (ms : BitVec 31) (t0 now : Nat) :
    timeoutExceeded en ms t0 now = true ↔ en = true ∧ ms.toNat * Config.upm < now - t0 := by
  simp only [timeoutExceeded, Bool.and_eq_true, decide_eq_true_eq]
  rfl

/-- The range check as a proposition (R172). -/
theorem timeoutInRange_iff (ms : BitVec 64) : timeoutInRange ms = true ↔ 0 ≤ ms.toInt ∧ ms.toInt ≤ 2147483647 := by
  simp only [timeoutInRange, decide_eq_true_eq]
  rfl

end Sys2Proof.Machine
end

