-- ==== Sys2Proof/Laws/Safety.lean ====
section
/-!
SUPPORT. The RA's response to a full frame, in the terms claims are stated in.
-/
namespace Sys2Proof.Machine

open Sys2Proof.Safety

/-- The packet the RA decodes is the one `frameResult` is about (R178). -/
theorem decode_framePacket (f key : Bytes8) : decodePacketBytes (framePacket f key) = frameResult key f := by
  simp [framePacket, frameResult, selectBlock, isClearForm, terminatorByte]

/-- Both slots after an update, the reading's own kind first (R181). -/
theorem updateSlots_eq (r : Reading) (s : State) :
    updateSlots r s = { s with tempSlot := (temperatureOf r).or s.tempSlot, co2Slot := (co2Of r).or s.co2Slot } := by
  cases r <;> simp [updateSlots, temperatureOf, co2Of]

/-- Everything a full frame can do where it gives a next state (R178 to R184). -/
theorem exec_rspFrame_cases {f : Bytes8} {s t : State} (h : exec (.rspFrame f) s = .next t) :
    (∃ d, frameResult s.key f = .err d ∧ s.st ≠ .idle ∧ t = finish (errorStatus d) none none none s) ∨
    (∃ r, frameResult s.key f = .ok r ∧ s.st = .busyOne ∧
      t = finish .ok (some ((framePacket f s.key).tag, packetValue (framePacket f s.key))) none none s) ∨
    (∃ r, frameResult s.key f = .ok r ∧ s.st = .busyComb ∧ t = settleCombined (updateSlots r s)) := by
  obtain ⟨hs, rfl⟩ := whenBusy_next h
  rcases takeFrame_cases f s with ⟨d, hd, e⟩ | ⟨r, hd, hb, e⟩ | ⟨r, hd, hb, e⟩ <;> rw [decode_framePacket] at hd <;> rw [e]
  · exact .inl ⟨d, hd, hs, rfl⟩
  · exact .inr (.inl ⟨r, hd, hb, rfl⟩)
  · exact .inr (.inr ⟨r, hd, by cases h : s.st <;> simp_all, rfl⟩)

/-- A reading in BUSY_COMB, both slots full after it (R182). -/
theorem takeFrame_full {f : Bytes8} {s : State} {r : Reading} {w c : Value} (hb : s.st = .busyComb)
    (hr : frameResult s.key f = .ok r) (hw : (temperatureOf r).or s.tempSlot = some w)
    (hc : (co2Of r).or s.co2Slot = some c) :
    takeFrame f s = finish .ok none (some (w, c)) none { s with tempSlot := some w, co2Slot := some c } := by
  rw [← decode_framePacket] at hr
  simp only [takeFrame, hr, takeReading, hb, reduceCtorEq, if_false, updateSlots_eq, hw, hc]
  rfl

/-- A run goes on from the next state of its first step. -/
theorem run_next {s u : State} (n : Nat) (h : step s = .next u) :
    Host.Core.run Sys2Proof.core (n + 1) s = Host.Core.run Sys2Proof.core n u := by
  have h' : Sys2Proof.core.step s = .next u := h
  simp only [Host.Core.run, h']

/-- A run stops at its first refusal. -/
theorem run_refused {s : State} {r : Refusal} (n : Nat) (h : step s = .refused r) :
    Host.Core.run Sys2Proof.core (n + 1) s = .refused r := by
  have h' : Sys2Proof.core.step s = .refused r := h
  simp only [Host.Core.run, h']

/-- A full frame decodes to itself. -/
theorem decode_rspFrame (f : Bytes8) : decode (encode (.rspFrame f)) = .rspFrame f := by
  simp [encode, decode, decodeRsp, rspIsReserved]

/-- A full frame met in BUSY_COMB (R178; log entry 4 for the time input). -/
theorem step_meets_frame {s u : State} {f : Bytes8 × Nat} (h : fetch s = makeMove (frameInput f) u) (hb : u.st = .busyComb) :
    step s = .next (takeFrame f.1 { u with now := max u.now f.2 }) := by
  rw [step_of_fetch_word (h.trans rfl), decode_rspFrame]
  simp only [exec, execRspFrame, whenBusy, advanceTime, hb, reduceCtorEq, if_false, if_true]

/-- A full frame met while IDLE is refused (R91). -/
theorem step_meets_frame_idle {s u : State} {f : Bytes8 × Nat} (h : fetch s = makeMove (frameInput f) u) (hs : u.st = .idle) :
    step s = .refused .responseWhileIdle := by
  rw [step_of_fetch_word (h.trans rfl), decode_rspFrame]
  simp only [exec, execRspFrame, whenBusy, advanceTime_st, hs, if_true]

end Sys2Proof.Machine
end

