-- ==== Sys2Proof/Tests/Slice0.lean ====
section
/-!
SUPPORT. The model's own tests. Every expected result is spec/95_test_vectors.md's (the vector's id stands with the test) or a
worked example of the rule named. Tests named witness_… show that the hypotheses of a statement of Certificates/Slice0 can be met.
-/
namespace Sys2Proof.Tests

open Sys2Proof.Machine Sys2Proof.Safety

/-! ## Helpers -/

/-- The next state of an outcome. -/
def nextOf : Host.Outcome State Fault Refusal → Option State
  | .next s => some s
  | _ => none

/-- The refusal of an outcome. -/
def refusalOf : Host.Outcome State Fault Refusal → Option Refusal
  | .refused r => some r
  | _ => none

/-- `Z`. -/
def keyZ : Bytes8 := ⟨0, 0, 0, 0, 0, 0, 0, 0⟩

/-- `K`. -/
def keyK : Bytes8 := ⟨1, 2, 3, 4, 5, 6, 7, 8⟩

/-- A READ_ONE in progress under `Z`. -/
def busyOne : State := { State.reset with st := .busyOne }

/-- A READ_COMBINED in progress since time 0, without a deadline, under `Z`. -/
def busyComb : State := { State.reset with st := .busyComb, t0Held := true, tmoEn := false }

/-- Slots `(some 4713, none)`, deadline 100 ms, `T0 = 0` (RA10, RA11). -/
def halfFull (now : Nat) : State :=
  { State.reset with st := .busyComb, t0Held := true, tmoMs := 100, tempSlot := some 4713, now := now }

/-- E1 under `Z`: CO2(1111). -/
def e1 : Bytes8 := ⟨0x6C, 0xA4, 0xA2, 0xB6, 0x5D, 0x9A, 0x9C, 0x08⟩

/-- E2 under `Z`: Temperature(4713). -/
def e2 : Bytes8 := ⟨0xFC, 0xA4, 0x32, 0xB6, 0xCD, 0x9A, 0x9C, 0x98⟩

/-- E7 under `Z`: a bad checksum. -/
def e7 : Bytes8 := ⟨0xFE, 0xA4, 0x32, 0xB6, 0xCD, 0x9A, 0x9C, 0xB0⟩

/-- SB4: Humidity(10000) in clear form. -/
def clearHumidity : Bytes8 := ⟨0x41, 0x27, 0x10, 0x78, 0x0D, 0x00, 0x00, 0x00⟩

/-- SB1: CO2(1111) in clear form. -/
def clearCo2 : Bytes8 := ⟨0x50, 0x04, 0x57, 0xAB, 0x0D, 0xAA, 0xBB, 0xCC⟩

/-- The packet of PV1. -/
def badTerminator : Packet := ⟨0x42, 0x12, 0x69, 0xBD, 0x00⟩

/-- The packet of PV3. -/
def badSum : Packet := ⟨0x42, 0x12, 0x69, 0x00, 0x0D⟩

/-- A valid packet, X4. -/
def goodPacket : Packet := ⟨0x42, 0x12, 0x69, 0xBD, 0x0D⟩

/-- An error value of the transport; which one is not known (P8 presents one by the name `disconnected`). -/
def anError : Config.TransportError := default

/-! ## Well-formedness: each check refuses an ill-formed term -/

theorem test_wf_short_of_eight : ¬ (Instr.rspShort 8 keyZ).WellFormed := by decide
theorem test_wf_reserved_of_frame : ¬ (Instr.rspReserved 0x086CA4A2B65D9A9C08 noError).WellFormed := by decide
theorem test_wf_clear_of_encrypted : ¬ (Instr.frameClear e1).WellFormed := by decide
theorem test_wf_encrypted_of_clear : ¬ (Instr.frameEncrypted clearCo2).WellFormed := by decide
theorem test_wf_invalid_of_terminated : ¬ (Instr.pktInvalidMessage badSum).WellFormed := by decide
theorem test_wf_checksum_of_good : ¬ (Instr.pktChecksum goodPacket).WellFormed := by decide
theorem test_wf_checksum_of_unterminated : ¬ (Instr.pktChecksum badTerminator).WellFormed := by decide
theorem test_wf_unknown_of_known : ¬ (Instr.pktUnknown 0x50 0).WellFormed := by decide

/-! ## Decoding: a word of the spec for every constructor -/

/-- P6's first line. -/
theorem test_decode_configure :
    decode (.cmd ⟨0b00, 0x0102030405060708, 1, 2147483648⟩) = .configure keyK true 2147483648 := by decide
theorem test_decode_readOne : decode (.cmd ⟨0b01, 0, 0, 0⟩) = .readOne := by decide
theorem test_decode_readCombined : decode (.cmd ⟨0b10, 0, 0, 0⟩) = .readCombined := by decide
theorem test_decode_cmdReserved : decode (.cmd ⟨0b11, 0, 0, 0⟩) = .cmdReserved := by decide
/-- P8's error line. -/
theorem test_decode_rspError (e : Config.TransportError) : decode (.rsp 0x800000000000000000 e) = .rspError e 0 keyZ := rfl
/-- P5's short line. -/
theorem test_decode_rspShort :
    decode (.rsp 0x05500457AB0D000000 noError) = .rspShort 5 ⟨0x50, 0x04, 0x57, 0xAB, 0x0D, 0, 0, 0⟩ := by decide
/-- P5's frame line. -/
theorem test_decode_rspFrame : decode (.rsp 0x086CA4A2B65D9A9C08 noError) = .rspFrame e1 := by decide
/-- RA17: `ERR = 0`, `COUNT = 9`. -/
theorem test_decode_rspReserved_count :
    decode (.rsp 0x090000000000000000 noError) = .rspReserved 0x090000000000000000 noError := rfl
/-- R91: a reserved bit beside `ERR = 1`. -/
theorem test_decode_rspReserved_bits :
    decode (.rsp 0x900000000000000000 noError) = .rspReserved 0x900000000000000000 noError := rfl
/-- SB1. -/
theorem test_decode_frameClear : decode (.frame 0x500457AB0DAABBCC) = .frameClear clearCo2 := by decide
/-- SB2. -/
theorem test_decode_frameEncrypted : decode (.frame 0x6CA4A2B65D9A9C08) = .frameEncrypted e1 := by decide
/-- FD1. -/
theorem test_decode_permute : decode (.fd .permute 0x0001020304050607 0) = .permute ⟨0, 1, 2, 3, 4, 5, 6, 7⟩ := by decide
/-- FD2. -/
theorem test_decode_xorKey :
    decode (.fd .xorKey 0x123456789ABCDEF0 0x0102030405060708) =
      .xorKey ⟨0x12, 0x34, 0x56, 0x78, 0x9A, 0xBC, 0xDE, 0xF0⟩ keyK := by decide
/-- FD3. -/
theorem test_decode_rotr3 : decode (.fd .rotr3 0x0000000000000007 0) = .rotr3 ⟨0, 0, 0, 0, 0, 0, 0, 7⟩ := by decide
/-- FD10. -/
theorem test_decode_subMask :
    decode (.fd .subMask 0x844756D607939356 0) = .subMask ⟨0x84, 0x47, 0x56, 0xD6, 0x07, 0x93, 0x93, 0x56⟩ := by decide
/-- FD13. -/
theorem test_decode_decrypt : decode (.fd .decrypt 0x6CA4A2B65D9A9C08 0x0102030405060708) = .decrypt e1 keyK := by decide
/-- PV1. -/
theorem test_decode_pktInvalidMessage : decode (.packet 0x421269BD00) = .pktInvalidMessage badTerminator := by decide
/-- PV3. -/
theorem test_decode_pktChecksum : decode (.packet 0x421269000D) = .pktChecksum badSum := by decide
/-- PV11. -/
theorem test_decode_pktHumidity : decode (.packet 0x41FFFF3F0D) = .pktHumidity 65535 := by decide
/-- X4. -/
theorem test_decode_pktTemperature : decode (.packet 0x421269BD0D) = .pktTemperature 4713 := by decide
/-- X2. -/
theorem test_decode_pktCo2 : decode (.packet 0x500457AB0D) = .pktCo2 1111 := by decide
/-- PV8: lower-case 'p'. -/
theorem test_decode_pktUnknown : decode (.packet 0x700457CB0D) = .pktUnknown 0x70 1111 := by decide
/-- PV4: both wrong, the terminator first. -/
theorem test_decode_bothWrong : decode (.packet 0x4212690000) = .pktInvalidMessage ⟨0x42, 0x12, 0x69, 0, 0⟩ := by decide
/-- The table's own numbering: RSP_FRAME's match word. -/
theorem test_table_rspFrame : decodeTableWord 72 0x080000000000000000 = some (.rspFrame keyZ) := by decide
/-- The table's own numbering: READ_COMBINED's match word. -/
theorem test_table_readCombined : decodeTableWord 8 2 = some .readCombined := by decide
theorem test_table_no_format : decodeTableWord 48 0 = none := by decide

/-! ## The Frame Decryptor -/

/-- FD1. -/
theorem test_permute :
    ((nextOf (exec (.permute ⟨0, 1, 2, 3, 4, 5, 6, 7⟩) State.reset)).map (·.emitted)) =
      some [.fdOutput .permute ⟨2, 4, 0, 7, 1, 6, 5, 3⟩] := by decide
/-- FD2. -/
theorem test_xorKey :
    ((nextOf (exec (.xorKey ⟨0x12, 0x34, 0x56, 0x78, 0x9A, 0xBC, 0xDE, 0xF0⟩ keyK) State.reset)).map (·.emitted)) =
      some [.fdOutput .xorKey ⟨0x13, 0x36, 0x55, 0x7C, 0x9F, 0xBA, 0xD9, 0xF8⟩] := by decide
/-- FD3: it tells the kept reading from the rejected one. -/
theorem test_rotr3_low_bits :
    ((nextOf (exec (.rotr3 ⟨0, 0, 0, 0, 0, 0, 0, 7⟩) State.reset)).map (·.emitted)) =
      some [.fdOutput .rotr3 ⟨0xE0, 0, 0, 0, 0, 0, 0, 0⟩] := by decide
/-- FD7. -/
theorem test_rotr3_word :
    ((nextOf (exec (.rotr3 ⟨0x12, 0x34, 0x56, 0x78, 0x9A, 0xBC, 0xDE, 0xF0⟩) State.reset)).map (·.emitted)) =
      some [.fdOutput .rotr3 ⟨0x02, 0x46, 0x8A, 0xCF, 0x13, 0x57, 0x9B, 0xDE⟩] := by decide
/-- FD9. -/
theorem test_subMask_wraps :
    ((nextOf (exec (.subMask keyZ) State.reset)).map (·.emitted)) =
      some [.fdOutput .subMask ⟨0x7C, 0xB9, 0xAA, 0x2A, 0xF9, 0x6D, 0x6D, 0xAA⟩] := by decide
/-- FD13. -/
theorem test_decrypt_key :
    ((nextOf (exec (.decrypt e1 keyK) State.reset)).map (·.emitted)) =
      some [.fdOutput .decrypt ⟨0x50, 0x24, 0x97, 0x0B, 0x8D, 0xA0, 0xC0, 0x61⟩] := by decide
/-- FD12. -/
theorem test_decrypt_zero_frame :
    decryptBytes keyZ keyK = ⟨0x7C, 0xD9, 0xEA, 0x8A, 0x79, 0x0D, 0x2D, 0x8B⟩ := by decide
/-- E4 under `K`. -/
theorem test_encrypt_key :
    encryptBytes ⟨0x41, 0x27, 0x10, 0x78, 0x0D, 0, 0, 0⟩ keyK = ⟨0x31, 0xA1, 0x2A, 0xBE, 0x71, 0x9D, 0x9A, 0x74⟩ := by decide
/-- SB4: a clear frame is not decrypted. -/
theorem test_frameClear :
    ((nextOf (exec (.frameClear clearHumidity) State.reset)).map (·.emitted)) = some [.selected clearHumidity] := by decide
/-- SB2. -/
theorem test_frameEncrypted :
    ((nextOf (exec (.frameEncrypted e1) State.reset)).map (·.emitted)) =
      some [.selected ⟨0x50, 0x04, 0x57, 0xAB, 0x0D, 0, 0, 0⟩] := by decide

/-! ## The Packet Validator -/

/-- PV1. -/
theorem test_pktInvalidMessage :
    ((nextOf (exec (decode (.packet 0x421269BD00)) State.reset)).map (·.emitted)) =
      some [.decoded (.err .invalidMessage)] := by decide
/-- PV3. -/
theorem test_pktChecksum :
    ((nextOf (exec (decode (.packet 0x421269000D)) State.reset)).map (·.emitted)) =
      some [.decoded (.err .checksum)] := by decide
/-- PV11. -/
theorem test_pktHumidity :
    ((nextOf (exec (decode (.packet 0x41FFFF3F0D)) State.reset)).map (·.emitted)) =
      some [.decoded (.ok (.humidity 65535))] := by decide
/-- PV13. -/
theorem test_pktTemperature :
    ((nextOf (exec (decode (.packet 0x42FFFF400D)) State.reset)).map (·.emitted)) =
      some [.decoded (.ok (.temperature 65535))] := by decide
/-- PV15. -/
theorem test_pktCo2 :
    ((nextOf (exec (decode (.packet 0x50FFFF4E0D)) State.reset)).map (·.emitted)) =
      some [.decoded (.ok (.co2 65535))] := by decide
/-- PV5. -/
theorem test_pktUnknown :
    ((nextOf (exec (decode (.packet 0xFFFFFFFD0D)) State.reset)).map (·.emitted)) =
      some [.decoded (.ok (.unknown 0xFF 65535))] := by decide

/-! ## Scaling -/

/-- SC1 to SC4. -/
theorem test_tempF32 :
    [tempF32 4713, tempF32 0, tempF32 65535, tempF32 4369] = [0x41AB4CD0, 0xC3889333, 0x456EEC9A, 0xBDB33000] := by
  decide +kernel
/-- SC5 to SC7. -/
theorem test_tempF32_near_zero : [tempF32 4370, tempF32 4371, tempF32 4372] = [0xBCCCC000, 0x3D19A000, 0x3DCCD000] := by
  decide +kernel
/-- SC8 to SC11. -/
theorem test_humF32 : [humF32 0, humF32 1, humF32 100, humF32 4660] = [0x00000000, 0x3C23D70A, 0x3F800000, 0x423A6666] := by
  decide +kernel
/-- SC12 to SC14. -/
theorem test_humF32_large : [humF32 5000, humF32 10000, humF32 65535] = [0x42480000, 0x42C80000, 0x4423D666] := by
  decide +kernel
/-- SC1's exact value. -/
theorem test_temperatureExact : temperatureExact 4713 = 214125 / 10000 := by decide +kernel

/-! ## Commands -/

/-- CF4: one over the range. -/
theorem test_configure_too_large :
    ((nextOf (exec (.configure keyK true 2147483648) State.reset)).map fun s => (s.resStatus, s.key, s.tmoMs)) =
      some (.invalidTimeout, keyZ, 5000) := by decide
/-- CF6: no deadline, the operand not checked. -/
theorem test_configure_no_deadline :
    ((nextOf (exec (.configure keyK false (-1)) State.reset)).map fun s => (s.resStatus, s.key, s.tmoEn, s.tmoMs)) =
      some (.ok, keyK, false, 5000) := by decide
/-- CF5: the operand is signed. -/
theorem test_configure_negative : timeoutInRange (-1) = false := by decide
/-- CF3: the largest legal operand. -/
theorem test_configure_largest :
    ((nextOf (exec (.configure keyK true 2147483647) State.reset)).map fun s => (s.resStatus, s.tmoMs)) =
      some (.ok, 2147483647) := by decide
/-- RA1. -/
theorem test_readOne :
    ((nextOf (exec .readOne State.reset)).map fun s => (s.st, s.resValid, s.emitted)) =
      some (.busyOne, false, [.request 5000]) := by decide
/-- RA2. -/
theorem test_readCombined :
    ((nextOf (exec .readCombined { State.reset with tmoEn := false, now := 7, tempSlot := some 1 })).map
      fun s => (s.st, s.tempSlot, s.t0, s.emitted)) = some (.busyComb, none, 7, [.request (-1)]) := by decide
/-- RA14: a held CONFIGURE changes nothing and stays presented. -/
theorem test_held :
    ((nextOf (step { busyComb with inputs := [.word (.cmd ⟨0b00, 1, 1, 100⟩) 0] })).map fun s => (s.key, s.st, s.cmdPort)) =
      some (keyZ, .busyComb, some ⟨0b00, 1, 1, 100⟩) := by decide
/-- P11: the held command is accepted once `ST` is IDLE again. -/
theorem test_held_then_accepted :
    ((nextOf (step { State.reset with cmdPort := some ⟨0b00, 0x0102030405060708, 1, 100⟩ })).map
      fun s => (s.key, s.tmoMs, s.cmdPort)) = some (keyK, 100, none) := by decide
/-- RA16. -/
theorem test_cmdReserved : refusalOf (exec .cmdReserved busyComb) = some .reservedCommand := by decide

/-! ## Responses -/

/-- RA3. -/
theorem test_rspError (e : Config.TransportError) :
    ((nextOf (exec (.rspError e 0 keyZ) { busyComb with tempSlot := some 1 })).map fun s => (s.st, s.resStatus, s.resErr)) =
      some (.idle, .transport, some e) := rfl
/-- RA5: valid bytes are not read. -/
theorem test_rspShort :
    ((nextOf (exec (.rspShort 7 ⟨0x50, 0x04, 0x57, 0xAB, 0x0D, 0, 0, 0⟩) busyOne)).map fun s => (s.st, s.resStatus, s.resSingle)) =
      some (.idle, .invalidMessage, none) := by decide
/-- RA6. -/
theorem test_rspFrame_single :
    ((nextOf (exec (.rspFrame e1) busyOne)).map fun s => (s.resStatus, s.resSingle)) = some (.ok, some (0x50, 1111)) := by decide
/-- RA9. -/
theorem test_rspFrame_completes :
    ((nextOf (exec (.rspFrame e1) { busyComb with tempSlot := some 4713 })).map fun s => (s.st, s.resComb)) =
      some (.idle, some (4713, 1111)) := by decide
/-- RA13: no deadline, so the loop goes on. -/
theorem test_rspFrame_loops :
    ((nextOf (exec (.rspFrame e2) { busyComb with now := 1000000000000 })).map fun s => (s.st, s.tempSlot, s.emitted)) =
      some (.busyComb, some 4713, [.request (-1)]) := by decide
/-- RA12: a decode error is not compared with the deadline. -/
theorem test_rspFrame_checksum :
    ((nextOf (exec (.rspFrame e7) (halfFull 1000))).map fun s => (s.st, s.resStatus, s.tempSlot)) =
      some (.idle, .checksum, some 4713) := by decide
/-- P10: a misclassified frame. -/
theorem test_rspFrame_misclassified :
    ((nextOf (exec (.rspFrame ⟨0x6C, 0xA4, 0xA2, 0xB6, 0x0D, 0x9A, 0x9C, 0x08⟩) busyOne)).map (·.resStatus)) =
      some .checksum := by decide
/-- RA10: elapsed equal to the budget. -/
theorem test_comparator_equal : timeoutExceeded true 100 0 (100 * Config.upm) = false := by
  simp [timeoutExceeded, budgetUnits]
/-- RA11: one time unit more. -/
theorem test_comparator_over : timeoutExceeded true 100 0 (100 * Config.upm + 1) = true := by
  simp [timeoutExceeded, budgetUnits]
/-- RA11 as a whole step. -/
theorem test_rspFrame_times_out :
    ((nextOf (exec (.rspFrame e2) (halfFull (100 * Config.upm + 1)))).map (·.resStatus)) = some .timeout := by
  have h : decodePacketBytes (framePacket e2 defaultKey) = .ok (.temperature 4713) := by decide
  simp [exec, execRspFrame, whenBusy, takeFrame, halfFull, h, State.reset, takeReading, updateSlots, settleCombined,
    completedPair, drawNow, timeoutExceeded, budgetUnits, nextOf, defaultTmoEn]
/-- RA15. -/
theorem test_rsp_idle : refusalOf (exec (.rspFrame e1) State.reset) = some .responseWhileIdle := by decide
/-- RA17. -/
theorem test_rspReserved :
    refusalOf (exec (.rspReserved 0x090000000000000000 noError) busyOne) = some .reservedResponse := by decide

/-! ## Reset, host reads, fetch -/

/-- R250: a reset abandons the read and keeps nothing of it. -/
theorem test_reset_input :
    ((nextOf (step { halfFull 5 with inputs := [.reset] })).map fun s => (s.st, s.tmoMs, s.tempSlot, s.emitted)) =
      some (.idle, 5000, none, []) := by decide
/-- I10: nothing to read before a command ends. -/
theorem test_host_reads_nothing : hostStatus State.reset = none := by decide
/-- P6's end state: Humidity 100 %. -/
theorem test_host_reads_humidity :
    resSingleF32 { State.reset with resValid := true, resSingle := some (0x41, 10000) } = some 0x42C80000 := by decide +kernel
/-- P5's last response as a table word run first: a read is outstanding for it. -/
theorem test_fetch_word :
    ((nextOf (step (State.reset.withFetchWord 72 0x086CA4A2B65D9A9C08))).map (·.resSingle)) =
      some (some (0x50, 1111)) := by decide
/-- RA13's loop as one step of an endless schedule: a Humidity frame, repeated, is answered with a request of -1. -/
theorem test_repeated_frames :
    let s := { busyComb with after := .repeated [frameInput (clearHumidity, 0)] }
    (nextOf (step s)).map (fun t => (t.st, t.after, t.emitted)) = some (.busyComb, s.after, [.request (-1)]) := rfl
/-- 10_state.md R20: `RES_VALID` is readable. -/
theorem test_hostValid : hostValid State.reset = false := by decide
/-- RA1 as a table word run first. -/
theorem test_fetch_command : ((nextOf (step (State.reset.withFetchWord 8 1))).map (·.st)) = some .busyOne := by decide

/-! ## Witnesses: the hypotheses of each statement can be met -/

theorem witness_DecodeOfEncodeIsIdentity : (Instr.rspShort 7 keyK).WellFormed ∧ (Instr.pktUnknown 0x70 1111).WellFormed := by
  decide
theorem witness_ResponseDecodesToItsOnlyRow : ∃ r ∈ rspRows, r.accepts 0x086CA4A2B65D9A9C08 = true :=
  ⟨_, .tail _ (.tail _ (.head _)), by decide⟩
theorem witness_ReservedRowsStopByName :
    busyOne.st ≠ .idle ∧ isResponse (.rspReserved 0x090000000000000000 noError) = true ∧ State.reset.st = .idle := by decide
theorem witness_RotateStage : ∃ n : Nat, 0 < n ∧ n < 64 := ⟨8, by decide⟩
theorem witness_SelectBlockByRawByteFour : clearCo2.b4 = 0x0D := by decide
theorem witness_ValidatorChecksTerminator : badTerminator.terminator ≠ 0x0D := by decide
theorem witness_ValidatorChecksSum :
    badSum.terminator = 0x0D ∧
      badSum.checksum.toNat ≠ (badSum.tag.toNat + badSum.valueHi.toNat + badSum.valueLo.toNat) % 256 := by decide
theorem witness_ValidPacketDecodesByTag :
    (0xFFFF : Value).toNat = (0xFF : Byte).toNat * 256 + (0xFF : Byte).toNat := by decide
theorem witness_UnitsAreStateless :
    isEvaluation (.decrypt e1 keyK) = true ∧ ∀ f, Instr.decrypt e1 keyK ≠ .frameEncrypted f := by
  exact ⟨rfl, fun f h => by cases h⟩
theorem witness_commands_idle : State.reset.st = .idle := by decide
theorem witness_BusyCommandsAreHeld_exec : busyComb.st ≠ .idle ∧ (Instr.readOne = .readOne) := by decide
theorem witness_BusyCommandsAreHeld_step :
    ∃ c : CmdWord, busyOne.st ≠ .idle ∧ c.op ≠ 0b11 ∧
      { busyOne with inputs := [.word (.cmd c) 3] }.inputs = .word (.cmd c) 3 :: [] := ⟨⟨0b10, 0, 0, 0⟩, by decide⟩
theorem witness_BusyCommandsAreHeld_lifted :
    let s := { State.reset with cmdPort := some ⟨0b01, 0, 0, 0⟩ }
    s.st = .idle ∧ s.inputs = [] ∧ s.after = .silent ∧ s.cmdPort = some ⟨0b01, 0, 0, 0⟩ := by decide
theorem witness_busy_responses : busyOne.st ≠ .idle ∧ busyComb.st ≠ .idle := by decide
theorem witness_DecodeFailureEndsCommand_checksum :
    busyComb.st ≠ .idle ∧ frameResult busyComb.key e7 = .err .checksum := by decide
theorem witness_DecodeFailureEndsCommand_terminator :
    busyOne.st ≠ .idle ∧ frameResult busyOne.key ⟨0x6F, 0xA1, 0xA3, 0xBE, 0x5F, 0x9D, 0x9A, 0x0C⟩ = .err .invalidMessage := by
  decide
theorem witness_SingleReadingEndsReadOne :
    busyOne.st = .busyOne ∧ frameResult busyOne.key clearHumidity = .ok (.humidity 10000) := by decide
theorem witness_FullPairCompletesReadCombined :
    (halfFull 500).st = .busyComb ∧ frameResult (halfFull 500).key e1 = .ok (.co2 1111) ∧
      (temperatureOf (.co2 1111)).or (halfFull 500).tempSlot = some 4713 ∧
      (co2Of (.co2 1111)).or (halfFull 500).co2Slot = some 1111 := by decide
/-- At the budget exactly: the loop clause. -/
theorem witness_OpenPairTimesOutOrLoops_loop :
    let s := halfFull (100 * Config.upm)
    s.st = .busyComb ∧ frameResult s.key e2 = .ok (.temperature 4713) ∧ (co2Of (.temperature 4713)).or s.co2Slot = none ∧
      ¬ (s.tmoEn = true ∧ (s.now : Int) - (s.t0 : Int) > (s.tmoMs.toNat : Int) * (Config.upm : Int)) := by
  refine ⟨rfl, by decide, by decide, ?_⟩
  simp [halfFull, State.reset]
/-- One time unit over the budget: the timeout clause. -/
theorem witness_OpenPairTimesOutOrLoops_timeout :
    let s := halfFull (100 * Config.upm + 1)
    s.st = .busyComb ∧ frameResult s.key e2 = .ok (.temperature 4713) ∧ (co2Of (.temperature 4713)).or s.co2Slot = none ∧
      (s.tmoEn = true ∧ (s.now : Int) - (s.t0 : Int) > (s.tmoMs.toNat : Int) * (Config.upm : Int)) := by
  refine ⟨rfl, by decide, by decide, ?_⟩
  simp [halfFull, State.reset, defaultTmoEn]
/-- A command in progress that ends with TIMEOUT (the second clause). -/
theorem witness_OpenPairTimesOutOrLoops_end :
    ∃ t, exec (.rspFrame e2) (halfFull (100 * Config.upm + 1)) = .next t ∧ Ends (halfFull (100 * Config.upm + 1)) t ∧
      t.resStatus = .timeout := by
  have h : decodePacketBytes (framePacket e2 defaultKey) = .ok (.temperature 4713) := by decide
  simp [exec, execRspFrame, whenBusy, takeFrame, halfFull, h, State.reset, takeReading, updateSlots, settleCombined,
    completedPair, drawNow, timeoutExceeded, budgetUnits, Ends, defaultTmoEn]
theorem witness_RemainingArgumentInBudget : timeoutExceeded true 100 0 (100 * Config.upm) = false ∧ 0 ≤ 100 * Config.upm :=
  ⟨test_comparator_equal, Nat.zero_le _⟩
theorem witness_StatusHasItsCause :
    ∃ t, exec (.rspShort 0 keyZ) busyOne = .next t ∧ Ends busyOne t ∧ t.resStatus = .invalidMessage :=
  ⟨_, rfl, by decide, rfl⟩
theorem witness_ResponseEndsOrAsksOnce :
    isResponse (.rspFrame e2) = true ∧ ∃ t, exec (.rspFrame e2) busyComb = .next t ∧ t.st = .busyComb := ⟨rfl, _, rfl, by decide⟩
theorem witness_NoDeadlineNeverTimesOut :
    busyComb.tmoEn = false ∧ ∃ t q, exec (.rspFrame e2) busyComb = .next t ∧ t.emitted = .request q :: busyComb.emitted :=
  ⟨rfl, _, -1, rfl, by decide⟩
theorem witness_NoDeadlineNeverTimesOut_ends :
    busyComb.tmoEn = false ∧ ∃ t, exec (.rspShort 0 keyZ) busyComb = .next t ∧ Ends busyComb t := ⟨rfl, _, rfl, by decide⟩
theorem witness_ResponseFrame :
    isResponse (.rspError anError 0 keyZ) = true ∧ ∃ t, exec (.rspError anError 0 keyZ) busyComb = .next t := ⟨rfl, _, rfl⟩
theorem witness_CommandFrame :
    (∃ t, exec (.configure keyK true 0) State.reset = .next t) ∧ (∃ t, exec .readCombined State.reset = .next t) ∧
      ∃ t, exec .readOne busyOne = .next t := ⟨⟨_, rfl⟩, ⟨_, rfl⟩, ⟨_, rfl⟩⟩
theorem witness_EvaluationFrame :
    isEvaluation (.frameEncrypted e1) = true ∧ ∃ t, exec (.frameEncrypted e1) busyOne = .next t := ⟨rfl, _, rfl⟩
theorem witness_OnlyConfigureWritesConfiguration :
    ∃ t, exec (.configure keyK true 2147483647) State.reset = .next t ∧ t.key ≠ State.reset.key := ⟨_, rfl, by decide⟩
theorem witness_BusyStepKeepsConfiguration :
    let s := { busyOne with inputs := [.word (.cmd ⟨0b00, 1, 0, 0⟩) 0] }
    s.st ≠ .idle ∧ (∀ u, nextMove s ≠ some (.reset, u)) ∧ ∃ t, step s = .next t :=
  ⟨by decide, fun _ h => by simp [nextMove] at h, _, rfl⟩
theorem witness_ClearFrameIgnoresKey : clearCo2.b4 = 0x0D ∧ ∃ t, exec (.rspFrame clearCo2) busyOne = .next t :=
  ⟨by decide, _, rfl⟩
theorem witness_BlockTailIsNotRead :
    let f : Bytes8 := clearCo2
    let g : Bytes8 := { clearCo2 with b5 := 0, b6 := 0, b7 := 0 }
    f ≠ g ∧ (selectBlock f keyZ).b0 = (selectBlock g keyZ).b0 ∧ (selectBlock f keyZ).b1 = (selectBlock g keyZ).b1 ∧
      (selectBlock f keyZ).b2 = (selectBlock g keyZ).b2 ∧ (selectBlock f keyZ).b3 = (selectBlock g keyZ).b3 ∧
      (selectBlock f keyZ).b4 = (selectBlock g keyZ).b4 := by decide
theorem witness_DontCareBitsAreNotRead_short :
    (0x05500457AB0D000000 : BitVec 72).extractLsb' 67 5 = 0 ∧ (0x070000000000000000 : BitVec 72).extractLsb' 67 5 = 0 := by decide
theorem witness_DontCareBitsAreNotRead_error :
    (0x800000000000000000 : BitVec 72).extractLsb' 68 4 = 8 ∧ (0x8F00000000000000FF : BitVec 72).extractLsb' 68 4 = 8 := by decide
theorem witness_DontCareBitsAreNotRead_cmd :
    let c : CmdWord := ⟨0b10, 0, 0, 0⟩
    let c' : CmdWord := ⟨0b10, 1, 1, 1⟩
    c.op = c'.op ∧ c.op ≠ 0b00 := by decide
theorem witness_StepRunsDecodedWord :
    { busyOne with inputs := [.word (encode (.rspFrame e1)) 4] }.inputs = .word (encode (.rspFrame e1)) 4 :: [] := rfl
theorem witness_StepWithoutWord_tick :
    { State.reset with inputs := [.tick 4] }.inputs = .tick 4 :: [] ∧ { State.reset with inputs := [.tick 4] }.cmdPort = none := by
  decide
theorem witness_StepWithoutWord_held :
    let s := { State.reset with inputs := [.tick 4], cmdPort := some ⟨0b01, 0, 0, 0⟩ }
    s.inputs = .tick 4 :: [] ∧ s.cmdPort = some ⟨0b01, 0, 0, 0⟩ := by decide
theorem witness_StepWithoutWord_withdraw : { busyOne with inputs := [.withdraw] }.inputs = .withdraw :: [] := by decide
theorem witness_StepRunsDecodedWord_repeated :
    let s := { busyComb with after := .repeated [frameInput (clearHumidity, 0)] }
    s.inputs = [] ∧ s.after = .repeated (frameInput (clearHumidity, 0) :: []) := ⟨rfl, rfl⟩
theorem witness_StepRunsDecodedWord_free :
    let s := { busyComb with after := .free 7 }
    s.inputs = [] ∧ s.after = .free 7 := by decide
theorem witness_StepWithoutWord_silent :
    State.reset.inputs = [] ∧ State.reset.after = .silent ∧ State.reset.cmdPort = none := by decide
theorem witness_StepWithoutWord_silent_held :
    let s := { busyOne with cmdPort := some ⟨0b01, 0, 0, 0⟩, after := .repeated [] }
    s.inputs = [] ∧ s.after = .repeated [] ∧ s.cmdPort = some ⟨0b01, 0, 0, 0⟩ := by decide
theorem witness_ResetInputResets : { busyComb with inputs := [.reset] }.inputs = .reset :: [] := by decide
theorem witness_HostReadsOnlyValidResults :
    State.reset.resValid = false ∧
      (let s := { State.reset with resValid := true, resComb := some (4713, 1111) }
       s.resValid = true ∧ s.resComb = some (4713, 1111)) ∧
      (let s := { State.reset with resValid := true, resSingle := some (0x41, 10000) }
       s.resValid = true ∧ s.resSingle = some (0x41, 10000)) ∧
      (let s := { State.reset with resValid := true, resSingle := some (0x42, 4713) }
       s.resValid = true ∧ s.resSingle = some (0x42, 4713)) ∧
      (let s := { State.reset with resValid := true, resSingle := some (0x50, 1111) }
       s.resValid = true ∧ s.resSingle = some (0x50, 1111) ∧ s.resComb = none) ∧
      (let s := { State.reset with resValid := true, resSingle := some (0x70, 1111) }
       s.resValid = true ∧ s.resSingle = some (0x70, 1111) ∧ (0x70 : Byte) ≠ 0x41 ∧ (0x70 : Byte) ≠ 0x42 ∧ (0x70 : Byte) ≠ 0x50) ∧
      State.reset.resSingle = none := by decide
theorem witness_TimeNeverFallsInReadCombined :
    let s := { busyComb with inputs := [.tick 0], now := 9 }
    s.st = .busyComb ∧ s.inputs = .tick 0 :: [] ∧ ∃ t, step s = .next t ∧ t.st = .busyComb := ⟨rfl, rfl, _, rfl, rfl⟩
theorem witness_TimeNeverFallsInReadCombined_later :
    let s := { busyComb with inputs := [.tick 9], now := 9 }
    s.st = .busyComb ∧ s.cmdPort = none ∧ s.now ≤ 9 ∧ s.inputs = .tick 9 :: [] := by decide
theorem witness_BusyWaitsWithoutBound :
    let s := { busyOne with cmdPort := some ⟨0b00, 0, 0, 0⟩ }
    s.st ≠ .idle ∧ s.inputs = [] ∧ s.after = .silent ∧ ∀ c, s.cmdPort = some c → c.op ≠ 0b11 :=
  ⟨by decide, rfl, rfl, fun c h => by simp at h; subst h; decide⟩
theorem witness_UnboundedLoopIsAdmitted :
    busyComb.st = .busyComb ∧ busyComb.tmoEn = false ∧ busyComb.tempSlot = none ∧ busyComb.inputs = [] := by decide
theorem witness_StepKeepsInvariant :
    let s := { busyComb with tempSlot := some 4713, emitted := [.request (-1)], inputs := [.tick 3] }
    CoreInv s ∧ ∃ t, step s = .next t := by
  refine ⟨⟨?_, ?_, ?_, ?_, ?_, ?_, ?_, ?_⟩, _, rfl⟩ <;> simp [busyComb, State.reset]
theorem witness_CombinedRunKeepsMostRecentOfEach :
    let fs : List (Bytes8 × Nat) := [(e2, 10), (clearHumidity, 20), (e1, 30)]
    let rs : List Reading := [.temperature 4713, .humidity 10000, .co2 1111]
    let s := { busyComb with inputs := fs.map frameInput }
    s.st = .busyComb ∧ s.tempSlot = none ∧ s.co2Slot = none ∧
      fs.map (fun f => frameResult s.key f.1) = rs.map DecodeResult.ok ∧
      ∃ t, Host.Core.run Sys2Proof.core fs.length s = .next t ∧ t.resComb = some (4713, 1111) :=
  ⟨rfl, rfl, rfl, by decide, _, rfl, by decide⟩
/-- The loop end: no CO₂ reading has come. -/
theorem witness_CombinedRunKeepsMostRecentOfEach_loops :
    let fs : List (Bytes8 × Nat) := [(e2, 10), (clearHumidity, 20)]
    let rs : List Reading := [.temperature 4713, .humidity 10000]
    let s := { busyComb with inputs := fs.map frameInput }
    s.st = .busyComb ∧ s.tempSlot = none ∧ s.co2Slot = none ∧
      fs.map (fun f => frameResult s.key f.1) = rs.map DecodeResult.ok ∧
      ∃ t, Host.Core.run Sys2Proof.core fs.length s = .next t ∧ t.st = .busyComb ∧ t.tempSlot = some 4713 :=
  ⟨rfl, rfl, rfl, by decide, _, rfl, by decide⟩
/-- The TIMEOUT end: a budget of 0, one unit of time gone. -/
theorem witness_CombinedRunKeepsMostRecentOfEach_timeout :
    let fs : List (Bytes8 × Nat) := [(e2, 1)]
    let rs : List Reading := [.temperature 4713]
    let s := { busyComb with tmoEn := true, tmoMs := 0, inputs := fs.map frameInput }
    s.st = .busyComb ∧ s.tempSlot = none ∧ s.co2Slot = none ∧
      fs.map (fun f => frameResult s.key f.1) = rs.map DecodeResult.ok ∧
      ∃ t, Host.Core.run Sys2Proof.core fs.length s = .next t ∧ t.st = .idle ∧ t.resStatus = .timeout := by
  have h : decodePacketBytes (framePacket e2 defaultKey) = .ok (.temperature 4713) := by decide
  have f : step { busyComb with tmoEn := true, tmoMs := 0, inputs := [frameInput (e2, 1)] } =
      exec (.rspFrame e2) { busyComb with tmoEn := true, tmoMs := 0, now := 1 } := rfl
  refine ⟨rfl, rfl, rfl, by decide, ?_⟩
  simp only [List.map, List.length, Host.Core.run, Sys2Proof.core, f]
  simp [exec, execRspFrame, whenBusy, takeFrame, busyComb, h, State.reset, takeReading, updateSlots, settleCombined,
    completedPair, drawNow, timeoutExceeded, budgetUnits]

end Sys2Proof.Tests
end

section
/-!
The Packet Validator's answer to a valid packet (41_validator.md R135) and the exact scaled values (R140).
-/
namespace Sys2Proof.Proofs

open Sys2Proof.Machine

/-- R76: a packet's value is big-endian, in the arithmetic form of the spec. -/
theorem packetValue_toNat (p : Packet) : (packetValue p).toNat = p.valueHi.toNat * 256 + p.valueLo.toNat := by
  calc (packetValue p).toNat
    _ = p.valueHi.toNat <<< 8 ||| p.valueLo.toNat := BitVec.toNat_append ..
    _ = p.valueHi.toNat <<< 8 + p.valueLo.toNat := (Nat.shiftLeft_add_eq_or_of_lt p.valueLo.isLt _).symm
    _ = p.valueHi.toNat * 256 + p.valueLo.toNat := by rw [Nat.shiftLeft_eq]

/-- A packet that passes both checks decodes to a reading: the last case of `decodePacketBytes_cases`. -/
theorem decodePacketBytes_of_valid {p : Packet} (ht : p.terminator = 0x0D)
    (hc : p.checksum = p.tag + p.valueHi + p.valueLo) :
    decodePacketBytes p = .ok (readingOf p.tag (packetValue p)) := by
  obtain ⟨hbad, -⟩ | ⟨-, hbad, -⟩ | ⟨-, -, hok⟩ := decodePacketBytes_cases p
  · exact absurd ht hbad
  · exact absurd hc hbad
  · exact hok

/-- R75, R136 to R139: the reading of a tag, with the tag bytes written out. -/
theorem readingOf_eq_ite (tag : Byte) (v : Value) :
    readingOf tag v = if tag = 0x41 then .humidity v else if tag = 0x42 then .temperature v
      else if tag = 0x50 then .co2 v else .unknown tag v := by
  obtain ⟨rfl, -⟩ | ⟨rfl, -⟩ | ⟨rfl, -⟩ | ⟨h41, h42, h50, hk⟩ := kindOf_cases tag
  · rfl
  · rfl
  · rfl
  · rw [readingOf, hk, if_neg h41, if_neg h42, if_neg h50]

/-- Settles O18: the packet is built so that both checks pass, and its value is `v` because both stand for the same number. -/
theorem validPacketDecodesByTag : Obligations.ValidPacketDecodesByTag := by
  intro tag a b v hv
  have hval : packetValue ⟨tag, a, b, tag + a + b, 0x0D⟩ = v :=
    BitVec.eq_of_toNat_eq ((packetValue_toNat _).trans hv.symm)
  rw [decodePacketBytes_of_valid rfl rfl, hval, readingOf_eq_ite]

/-- Settles O22: each clause is one equation of `scaledExact` (R140). -/
theorem exactScaledValues : Obligations.ExactScaledValues :=
  ⟨fun _ => rfl, fun _ => rfl, fun _ => rfl, fun _ _ => rfl⟩

end Sys2Proof.Proofs
end

section
/-!
The Reading Accumulator: what an accepted command writes (42_accumulator.md R172 to R174) and how a response ends a command or
asks for the next frame (R176 to R184).
-/
namespace Sys2Proof.Proofs

open Sys2Proof.Machine Sys2Proof.Safety

/-! ### Operands and flags in the arithmetic form of the spec -/

/-- R175: the argument of a read as a number. -/
theorem readTimeoutArg_eq (en : Bool) (ms : BitVec 31) :
    readTimeoutArg en ms = if en = true then BitVec.ofNat 32 ms.toNat else BitVec.ofInt 32 (-1) := by
  rw [BitVec.ofNat_toNat]
  rfl

/-- R172: the low 31 bits of the timeout operand, as a number. -/
theorem tmoMsField_eq (ms : BitVec 64) : tmoMsField ms = BitVec.ofNat 31 ms.toNat := rfl

/-- R183: the comparator over the integers. Where the time input is before `T0` both sides are false, so the model's truncated
difference says the same. -/
theorem timeoutExceeded_iff_int (en : Bool) (ms : BitVec 31) (t0 now : Nat) :
    timeoutExceeded en ms t0 now = true ↔
      en = true ∧ (now : Int) - (t0 : Int) > (ms.toNat : Int) * (Config.upm : Int) := by
  rw [timeoutExceeded_iff, ← Nat.cast_mul]
  generalize ms.toNat * Config.upm = budget
  exact and_congr_right fun _ => by omega

/-! ### Commands -/

/-- R172: CONFIGURE is rejected exactly when a deadline is asked for and the signed operand is out of range. -/
theorem configureState_eq (key : Bytes8) (en : Bool) (ms : BitVec 64) (s : State) :
    configureState key en ms s =
      if en = true ∧ ¬ (0 ≤ ms.toInt ∧ ms.toInt ≤ 2147483647) then setResult .invalidTimeout s
      else setResult .ok { s with key := key, tmoEn := en, tmoMs := if en then tmoMsField ms else s.tmoMs } := by
  simp only [← timeoutInRange_iff]
  obtain ⟨hen, hout, heq⟩ | ⟨hin, heq⟩ := configureState_cases key en ms s
  · exact heq.trans (if_pos ⟨hen, by simp [hout]⟩).symm
  · exact heq.trans (if_neg fun ⟨hen, hout⟩ => hin.elim (by simp [hen]) hout).symm

/-- Settles O27: a CONFIGURE met in IDLE is accepted, and `configureState_eq` says what it writes. -/
theorem configureWritesOrRejects : Obligations.ConfigureWritesOrRejects := by
  intro key en ms s hidle
  rw [exec, execConfigure, whenIdle_idle hidle, configureState_eq, tmoMsField_eq]
  rfl

/-- Settles O29: a READ_COMBINED met in IDLE is accepted, and its request carries `readTimeoutArg`. -/
theorem readCombinedStarts : Obligations.ReadCombinedStarts := by
  intro s hidle
  rw [exec, execReadCombined, whenIdle_idle hidle, ← readTimeoutArg_eq]
  rfl

/-! ### Responses that end the command whatever the slots are -/

/-- Settles O31: a transport error met while busy is `finish` with its value (R176). -/
theorem transportErrorEndsCommand : Obligations.TransportErrorEndsCommand :=
  fun _ _ _ _ hbusy => whenBusy_busy hbusy _

/-- Settles O32: a short read met while busy is `finish` with INVALID_MESSAGE (R177). -/
theorem shortReadEndsCommand : Obligations.ShortReadEndsCommand :=
  fun _ _ _ hbusy => whenBusy_busy hbusy _

/-- R178: a full frame met while busy is taken. -/
theorem exec_rspFrame_busy (f : Bytes8) {s : State} (hbusy : s.st ≠ .idle) :
    exec (.rspFrame f) s = .next (takeFrame f s) :=
  whenBusy_busy hbusy _

/-- R179: a decode failure ends the command with its own status. -/
theorem takeFrame_err {f : Bytes8} {s : State} {d : DecodeError} (hr : frameResult s.key f = .err d) :
    takeFrame f s = finish (errorStatus d) none none none s := by
  rw [← decode_framePacket] at hr
  simp only [takeFrame, hr]

/-- R180 to R184: a reading is taken with the packet it was decoded from. -/
theorem takeFrame_ok {f : Bytes8} {s : State} {r : Reading} (hr : frameResult s.key f = .ok r) :
    takeFrame f s = takeReading (framePacket f s.key) r s := by
  rw [← decode_framePacket] at hr
  simp only [takeFrame, hr]

/-- Settles O33: the status of `finish` is the failure's (R179). -/
theorem decodeFailureEndsCommand : Obligations.DecodeFailureEndsCommand := by
  intro f s d hbusy hr
  rw [exec_rspFrame_busy f hbusy, takeFrame_err hr]
  cases d <;> rfl

/-- R180: in BUSY_ONE a reading is the result. -/
theorem takeReading_busyOne {s : State} (hone : s.st = .busyOne) (p : Packet) (r : Reading) :
    takeReading p r s = finish .ok (some (p.tag, packetValue p)) none none s :=
  if_pos hone

/-- Settles O34: the packet of the frame is bytes 0 to 4 of its block, so the result's tag and value are bytes 0 to 2. -/
theorem singleReadingEndsReadOne : Obligations.SingleReadingEndsReadOne := by
  intro f s r hone hr
  rw [exec_rspFrame_busy f (by simp [hone]), takeFrame_ok hr, takeReading_busyOne hone]
  rfl

/-! ### Readings of a READ_COMBINED -/

/-- Settles O35: with both slots full the completion check comes first, so the time is not looked at (R182). -/
theorem fullPairCompletesReadCombined : Obligations.FullPairCompletesReadCombined := by
  intro f s r w c hcomb hr hw hc
  rw [exec_rspFrame_busy f (by simp [hcomb]), takeFrame_full hcomb hr hw hc]
  rfl

/-- R183, R184: with a slot empty the comparator alone decides between TIMEOUT and the next request. -/
theorem settleCombined_open {s : State} (hopen : s.tempSlot = none ∨ s.co2Slot = none) :
    settleCombined s =
      if timeoutExceeded s.tmoEn s.tmoMs s.t0 s.now = true then finish .timeout none none none s else continueLoop s := by
  obtain ⟨w, c, hw, hc, -⟩ | ⟨-, ht, heq⟩ | ⟨-, ht, heq⟩ := settleCombined_cases s
  · simp [hw, hc] at hopen
  · rw [heq, if_pos ht]
  · rw [heq, if_neg (by simp [ht])]

/-- R181 to R184: in BUSY_COMB a reading goes to its slot, and the loop is settled on the slots after that. -/
theorem takeFrame_busyComb {f : Bytes8} {s : State} {r : Reading} (hcomb : s.st = .busyComb)
    (hr : frameResult s.key f = .ok r) :
    takeFrame f s =
      settleCombined { s with tempSlot := (temperatureOf r).or s.tempSlot, co2Slot := (co2Of r).or s.co2Slot } := by
  rw [takeFrame_ok hr, takeReading, if_neg (by simp [hcomb]), updateSlots_eq]

/-- R171, R144: only a response ends a command in progress. A command is held, and an evaluation changes no register. -/
theorem exec_st_of_not_response {i : Instr} {s t : State} (hi : isResponse i = false) (hbusy : s.st ≠ .idle)
    (h : exec i s = .next t) : t.st = s.st := by
  have held {k : State → State} (hk : whenIdle s k = .next t) : t.st = s.st := by
    rw [whenIdle_busy hbusy] at hk
    cases hk
    rfl
  cases i with
  | configure | readOne | readCombined => exact held h
  | rspError | rspShort | rspFrame | rspReserved => cases hi
  | cmdReserved => cases h
  | _ => cases h; rfl

/-- R183: of the responses only a full frame that decodes in BUSY_COMB writes TIMEOUT; the others that are taken write the
status of their own error, or OK. -/
theorem timeout_of_response {i : Instr} {s t : State} (hi : isResponse i = true) (h : exec i s = .next t)
    (ht : t.resStatus = .timeout) : s.st = .busyComb ∧ ∃ f r, i = .rspFrame f ∧ frameResult s.key f = .ok r := by
  cases i with
  | rspError | rspShort =>
    obtain ⟨-, rfl⟩ := whenBusy_next h
    cases ht
  | rspFrame f =>
    obtain ⟨d, -, -, rfl⟩ | ⟨r, -, -, rfl⟩ | ⟨r, hr, hcomb, -⟩ := exec_rspFrame_cases h
    · cases d <;> cases ht
    · cases ht
    · exact ⟨hcomb, f, r, rfl, hr⟩
  | rspReserved w e =>
    simp only [exec, execRspReserved] at h
    split at h <;> cases h
  | _ => cases hi

/-- Settles O36: `settleCombined_open` on the updated slots for the first clause; for the second, what is no response ends no
command, and `timeout_of_response` speaks of the responses. -/
theorem openPairTimesOutOrLoops : Obligations.OpenPairTimesOutOrLoops := by
  refine ⟨fun f s r hcomb hr hopen => ?_, fun i s t h ⟨hbusy, hidle⟩ ht => ?_⟩
  · rw [exec_rspFrame_busy f (by simp [hcomb]), takeFrame_busyComb hcomb hr, settleCombined_open hopen]
    simp only [timeoutExceeded_iff_int, ← readTimeoutArg_eq]
    rfl
  · cases hi : isResponse i with
    | true => exact timeout_of_response hi h ht
    | false => exact absurd ((exec_st_of_not_response hi hbusy h).symm.trans hidle) hbusy

end Sys2Proof.Proofs
end

section
/-!
The decoder and the encoder (30_encoding.md): what each format decodes to, row by row, and the rows of the opcode table.
-/
namespace Sys2Proof.Proofs

open Sys2Proof.Machine Sys2Proof.Safety

/-! ### Format packet: a packet fails a check, or it is the valid packet of a tag and a value -/

@[simp] theorem terminatorMatches_iff (p : Packet) : terminatorMatches p = true ↔ p.terminator = 0x0D := beq_iff_eq

@[simp] theorem checksumMatches_iff (p : Packet) :
    checksumMatches p = true ↔ p.checksum = p.tag + p.valueHi + p.valueLo := beq_iff_eq

/-- R76: the value of a packet built from a value. -/
@[simp] theorem packetValue_validPacket (tag : Byte) (v : Value) : packetValue (validPacket tag v) = v :=
  BitVec.extractLsb'_append_extractLsb' (w := 8) (len := 8)

/-- A packet that passes both checks is the valid packet of its tag and value. -/
theorem eq_validPacket {p : Packet} (ht : p.terminator = 0x0D) (hc : p.checksum = p.tag + p.valueHi + p.valueLo) :
    p = validPacket p.tag (packetValue p) := by
  obtain ⟨tag, hi, lo, sum, term⟩ := p
  have hhi : (hi ++ lo).extractLsb' 8 8 = hi := BitVec.extractLsb'_append_eq_left
  have hlo : (hi ++ lo).extractLsb' 0 8 = lo := BitVec.extractLsb'_append_eq_right
  simp only at ht hc
  simp [validPacket, packetValue, hhi, hlo, ht, hc, packetSum, terminatorByte]

/-- The row of a valid packet of a tag and a value (R136 to R139). -/
def kindRow (tag : Byte) (value : Value) : Instr :=
  match kindOf tag with
  | .humidity => .pktHumidity value
  | .temperature => .pktTemperature value
  | .co2 => .pktCo2 value
  | .unknown => .pktUnknown tag value

theorem decodePacket_validPacket (tag : Byte) (v : Value) : decodePacket (validPacket tag v) = kindRow tag v := by
  have ht : terminatorMatches (validPacket tag v) = true := (terminatorMatches_iff _).2 rfl
  have hc : checksumMatches (validPacket tag v) = true := (checksumMatches_iff _).2 rfl
  rw [decodePacket, if_pos ht, if_pos hc, packetValue_validPacket]
  rfl

theorem decodePacketBytes_validPacket (tag : Byte) (v : Value) :
    decodePacketBytes (validPacket tag v) = .ok (readingOf tag v) := by
  rw [decodePacketBytes_of_valid rfl rfl, packetValue_validPacket]
  rfl

theorem decodePacket_badTerminator {p : Packet} (h : p.terminator ≠ 0x0D) : decodePacket p = .pktInvalidMessage p :=
  if_neg (by simpa using h)

theorem decodePacketBytes_badTerminator {p : Packet} (h : p.terminator ≠ 0x0D) :
    decodePacketBytes p = .err .invalidMessage :=
  if_neg (by simpa using h)

theorem decodePacketBytes_badSum {p : Packet} (ht : p.terminator = 0x0D)
    (hc : p.checksum ≠ p.tag + p.valueHi + p.valueLo) : decodePacketBytes p = .err .checksum := by
  rw [decodePacketBytes, if_pos ((terminatorMatches_iff p).2 ht), if_neg (by simpa using hc)]

theorem decodePacket_badSum {p : Packet} (ht : p.terminator = 0x0D) (hc : p.checksum ≠ p.tag + p.valueHi + p.valueLo) :
    decodePacket p = .pktChecksum p := by
  rw [decodePacket, if_pos ((terminatorMatches_iff p).2 ht), if_neg (by simpa using hc)]

/-- The three ways of a packet (R132, R133, R135). -/
theorem packet_cases (p : Packet) :
    p.terminator ≠ 0x0D ∨ (p.terminator = 0x0D ∧ p.checksum ≠ p.tag + p.valueHi + p.valueLo) ∨
    ∃ tag v, p = validPacket tag v := by
  by_cases ht : p.terminator = 0x0D
  · by_cases hc : p.checksum = p.tag + p.valueHi + p.valueLo
    · exact .inr (.inr ⟨_, _, eq_validPacket ht hc⟩)
    · exact .inr (.inl ⟨ht, hc⟩)
  · exact .inl ht

/-- The row of each tag. -/
theorem kindRow_cases (tag : Byte) (v : Value) :
    (tag = 0x41 ∧ kindRow tag v = .pktHumidity v) ∨ (tag = 0x42 ∧ kindRow tag v = .pktTemperature v) ∨
    (tag = 0x50 ∧ kindRow tag v = .pktCo2 v) ∨
    (tag ≠ 0x41 ∧ tag ≠ 0x42 ∧ tag ≠ 0x50 ∧ kindRow tag v = .pktUnknown tag v) := by
  obtain ⟨h, hk⟩ | ⟨h, hk⟩ | ⟨h, hk⟩ | ⟨h41, h42, h50, hk⟩ := kindOf_cases tag
  · exact .inl ⟨h, by rw [kindRow, hk]⟩
  · exact .inr (.inl ⟨h, by rw [kindRow, hk]⟩)
  · exact .inr (.inr (.inl ⟨h, by rw [kindRow, hk]⟩))
  · exact .inr (.inr (.inr ⟨h41, h42, h50, by rw [kindRow, hk]⟩))

theorem encode_kindRow (tag : Byte) (v : Value) : encode (kindRow tag v) = .packet (packetWord (validPacket tag v)) := by
  obtain ⟨rfl, hk⟩ | ⟨rfl, hk⟩ | ⟨rfl, hk⟩ | ⟨-, -, -, hk⟩ := kindRow_cases tag v <;> rw [hk] <;> rfl

/-- R130: the row of a valid packet answers with its reading. -/
theorem exec_kindRow (tag : Byte) (v : Value) (s : State) :
    exec (kindRow tag v) s = evaluate (.decoded (.ok (readingOf tag v))) s := by
  obtain ⟨rfl, hk⟩ | ⟨rfl, hk⟩ | ⟨rfl, hk⟩ | ⟨h41, h42, h50, hk⟩ := kindRow_cases tag v
  · rw [hk]; rfl
  · rw [hk]; rfl
  · rw [hk]; rfl
  · rw [hk, readingOf_eq_ite, if_neg h41, if_neg h42, if_neg h50]; rfl

/-! ### Format rsp: the row of the four fields of a response word -/

/-- R91: the reserved response words. -/
@[simp] theorem rspIsReserved_iff (w : BitVec 72) :
    rspIsReserved w = true ↔ rspReservedBits w ≠ 0 ∨ (rspErrBit w = 0 ∧ 8 < (rspCount w).toNat) := by
  simp [rspIsReserved]

theorem decodeRsp_reserved {w : BitVec 72} (h : rspIsReserved w = true) (e : Config.TransportError) :
    decodeRsp w e = .rspReserved w e :=
  if_pos h

theorem decodeRsp_error {w : BitVec 72} (hres : rspReservedBits w = 0) (herr : rspErrBit w = 1)
    (e : Config.TransportError) : decodeRsp w e = .rspError e (rspCount w) (rspData w) := by
  rw [decodeRsp, if_neg (by simp [hres, herr]), if_pos herr]

theorem decodeRsp_short {w : BitVec 72} (hres : rspReservedBits w = 0) (herr : rspErrBit w = 0)
    (hcount : (rspCount w).toNat < 8) (e : Config.TransportError) :
    decodeRsp w e = .rspShort (rspCount w) (rspData w) := by
  rw [decodeRsp, if_neg (by simp [hres, hcount.le]), if_neg (by simp [herr]), if_pos hcount]

theorem decodeRsp_frame {w : BitVec 72} (hres : rspReservedBits w = 0) (herr : rspErrBit w = 0) (hcount : rspCount w = 8)
    (e : Config.TransportError) : decodeRsp w e = .rspFrame (rspData w) := by
  rw [decodeRsp, if_neg (by simp [hres, hcount]), if_neg (by simp [herr]), if_neg (by simp [hcount])]

/-- The four ways of a response word, by its fields (R85, R91). -/
theorem rsp_cases (w : BitVec 72) :
    rspIsReserved w = true ∨ (rspReservedBits w = 0 ∧ rspErrBit w = 1) ∨
    (rspReservedBits w = 0 ∧ rspErrBit w = 0 ∧ (rspCount w).toNat < 8) ∨
    (rspReservedBits w = 0 ∧ rspErrBit w = 0 ∧ rspCount w = 8) := by
  rw [rspIsReserved_iff]
  generalize rspReservedBits w = res, rspErrBit w = err, rspCount w = count
  revert res err count
  decide

/-- Settles O1: each row's word has the fields its decoder asks for; a valid packet's row is the one of its tag. -/
theorem decodeOfEncodeIsIdentity : Obligations.DecodeOfEncodeIsIdentity := by
  intro i hwf
  cases i with
  | configure key en ms => cases en <;> simp [encode, decode, decodeCmd]
  | readOne | readCombined | cmdReserved => rfl
  | rspError e count data => simp [encode, decode, decodeRsp]
  | rspShort count data =>
    have hlt : count.toNat < 8 := of_decide_eq_true hwf
    simp [encode, decode, decodeRsp, hlt, hlt.le]
  | rspFrame data => exact decode_rspFrame data
  | rspReserved w e => exact if_pos hwf
  | frameClear f =>
    have hclear : isClearForm f = true := hwf
    simp [encode, decode, decodeFrame, hclear]
  | frameEncrypted f =>
    have hclear : isClearForm f = false := by simpa [Instr.WellFormed, Instr.wf] using hwf
    simp [encode, decode, decodeFrame, hclear]
  | permute | xorKey | rotr3 | subMask | decrypt => simp [encode, decode, decodeFd]
  | pktInvalidMessage p =>
    have ht : p.terminator ≠ 0x0D := by simpa [Instr.WellFormed, Instr.wf, ← Bool.not_eq_true] using hwf
    simp [encode, decode, decodePacket_badTerminator ht]
  | pktChecksum p =>
    obtain ⟨ht, hc⟩ : p.terminator = 0x0D ∧ p.checksum ≠ p.tag + p.valueHi + p.valueLo := by
      simpa [Instr.WellFormed, Instr.wf, ← Bool.not_eq_true] using hwf
    simp [encode, decode, decodePacket_badSum ht hc]
  | pktHumidity | pktTemperature | pktCo2 =>
    simp only [encode, decode, packetOfWord_packetWord, decodePacket_validPacket]
    rfl
  | pktUnknown tag v =>
    have hk : kindOf tag = .unknown := by simpa [Instr.WellFormed, Instr.wf] using hwf
    simp [encode, decode, decodePacket_validPacket, kindRow, hk]

theorem encode_decodeRsp (w : BitVec 72) (e : Config.TransportError) : ∃ e', encode (decodeRsp w e) = .rsp w e' := by
  have hw := rspWord_fields w
  obtain h | ⟨hres, herr⟩ | ⟨hres, herr, hcount⟩ | ⟨hres, herr, hcount⟩ := rsp_cases w
  · exact ⟨e, by rw [decodeRsp_reserved h]; rfl⟩
  · rw [hres, herr] at hw
    exact ⟨e, by rw [decodeRsp_error hres herr, encode, hw]⟩
  · rw [hres, herr] at hw
    exact ⟨noError, by rw [decodeRsp_short hres herr hcount, encode, hw]⟩
  · rw [hres, herr, hcount] at hw
    exact ⟨noError, by rw [decodeRsp_frame hres herr hcount, encode, hw]⟩

theorem encode_decodeFrame (w : BitVec 64) : encode (decodeFrame w) = .frame w := by
  unfold decodeFrame
  split <;> simp [encode]

theorem encode_decodePacket (p : Packet) : encode (decodePacket p) = .packet (packetWord p) := by
  obtain ht | ⟨ht, hc⟩ | ⟨tag, v, rfl⟩ := packet_cases p
  · rw [decodePacket_badTerminator ht, encode]
  · rw [decodePacket_badSum ht hc, encode]
  · rw [decodePacket_validPacket, encode_kindRow]

/-- Settles O2: the rows of these formats keep all fields of their words, and the fields are the word. -/
theorem encodeOfDecodeGivesWordBack : Obligations.EncodeOfDecodeGivesWordBack := by
  refine ⟨encode_decodeRsp, encode_decodeFrame, fun w => ?_, fun key en ms => ?_⟩
  · rw [decode, encode_decodePacket, packetWord_packetOfWord]
  · have hen : BitVec.ofBool (en == 1) = en := by revert en; decide
    rw [decode, decodeCmd, if_pos rfl, encode, wordView_bytesView, hen]

/-! ### The rows of format packet in the opcode table -/

theorem packetOfWord_inj {w w' : BitVec 40} : packetOfWord w = packetOfWord w' ↔ w = w' :=
  ⟨fun h => by rw [← packetWord_packetOfWord w, h, packetWord_packetOfWord], congrArg _⟩

theorem packetOfWord_and (w m : BitVec 40) :
    packetOfWord (w &&& m) =
      ⟨(packetOfWord w).tag &&& (packetOfWord m).tag, (packetOfWord w).valueHi &&& (packetOfWord m).valueHi,
       (packetOfWord w).valueLo &&& (packetOfWord m).valueLo, (packetOfWord w).checksum &&& (packetOfWord m).checksum,
       (packetOfWord w).terminator &&& (packetOfWord m).terminator⟩ := by
  simp [packetOfWord, BitVec.extractLsb'_and]

theorem byte_and_ff (b : Byte) : b &&& 0xFF#8 = b := BitVec.and_allOnes

/-- The match of a row whose mask covers the terminator. -/
theorem matches_terminator (w : BitVec 40) :
    w &&& 0x00000000FF#40 = 0x000000000D#40 ↔ (packetOfWord w).terminator = 0x0D#8 := by
  have hm : packetOfWord 0x00000000FF#40 = ⟨0, 0, 0, 0, 0xFF⟩ := rfl
  have hb : packetOfWord 0x000000000D#40 = ⟨0, 0, 0, 0, 0x0D⟩ := rfl
  rw [← packetOfWord_inj, packetOfWord_and, hm, hb]
  simp [byte_and_ff]

/-- The match of a row whose mask covers the tag and the terminator. -/
theorem matches_tag_terminator (w b : BitVec 40) (tag : Byte) (hb : packetOfWord b = ⟨tag, 0, 0, 0, 0x0D⟩) :
    w &&& 0xFF000000FF#40 = b ↔ (packetOfWord w).tag = tag ∧ (packetOfWord w).terminator = 0x0D#8 := by
  have hm : packetOfWord 0xFF000000FF#40 = ⟨0xFF, 0, 0, 0, 0xFF⟩ := rfl
  rw [← packetOfWord_inj, packetOfWord_and, hm, hb]
  simp [byte_and_ff]

/-- R89, R145: the row a packet word decodes to is the first that accepts it. -/
theorem packet_firstRow (w : BitVec 40) :
    ∃ r, packetRows.find? (fun r => r.accepts w) = some r ∧ r.isRow (decodePacket (packetOfWord w)) = true := by
  have hA := matches_tag_terminator w 0x410000000D#40 0x41#8 rfl
  have hB := matches_tag_terminator w 0x420000000D#40 0x42#8 rfl
  have hP := matches_tag_terminator w 0x500000000D#40 0x50#8 rfl
  have hT := matches_terminator w
  obtain ht | ⟨ht, hc⟩ | ⟨tag, v, hp⟩ := packet_cases (packetOfWord w)
  · refine ⟨packetRows[0], ?_, by rw [decodePacket_badTerminator ht]; rfl⟩
    simpa [packetRows, PacketRow.accepts] using ht
  · refine ⟨packetRows[1], ?_, by rw [decodePacket_badSum ht hc]; rfl⟩
    simp [packetRows, PacketRow.accepts, hT, ht, hc]
  · have ht : (packetOfWord w).terminator = 0x0D := by rw [hp]; rfl
    have hc : (packetOfWord w).checksum = (packetOfWord w).tag + (packetOfWord w).valueHi + (packetOfWord w).valueLo := by
      rw [hp]; rfl
    have htag : (packetOfWord w).tag = tag := by rw [hp]; rfl
    rw [hp, decodePacket_validPacket]
    obtain ⟨h, hk⟩ | ⟨h, hk⟩ | ⟨h, hk⟩ | ⟨h41, h42, h50, hk⟩ := kindRow_cases tag v
    · exact ⟨packetRows[2], by simp [packetRows, PacketRow.accepts, hA, ht, hc, htag, h], by rw [hk]; rfl⟩
    · exact ⟨packetRows[3], by simp [packetRows, PacketRow.accepts, hA, hB, ht, hc, htag, h], by rw [hk]; rfl⟩
    · exact ⟨packetRows[4], by simp [packetRows, PacketRow.accepts, hA, hB, hP, ht, hc, htag, h], by rw [hk]; rfl⟩
    · refine ⟨packetRows[5], ?_, by rw [hk]; rfl⟩
      simpa [packetRows, PacketRow.accepts, hA, hB, hP, hT, ht, hc, htag] using ⟨h41, h42, h50, h41, h42, h50⟩

/-- Settles O3: the three ways of a packet against the six rows, `packet_firstRow`. -/
theorem packetDecodesToFirstTableRow : Obligations.PacketDecodesToFirstTableRow := packet_firstRow

/-! ### The rows of format rsp in the opcode table -/

/-- The fields of a masked response word. -/
theorem rspFields_and (w m : BitVec 72) :
    rspErrBit (w &&& m) = rspErrBit w &&& rspErrBit m ∧
    rspReservedBits (w &&& m) = rspReservedBits w &&& rspReservedBits m ∧
    rspCount (w &&& m) = rspCount w &&& rspCount m ∧
    (w &&& m).extractLsb' 0 64 = w.extractLsb' 0 64 &&& m.extractLsb' 0 64 :=
  ⟨BitVec.extractLsb'_and, BitVec.extractLsb'_and, BitVec.extractLsb'_and, BitVec.extractLsb'_and⟩

theorem rspFields_inj {w w' : BitVec 72} :
    w = w' ↔ rspErrBit w = rspErrBit w' ∧ rspReservedBits w = rspReservedBits w' ∧ rspCount w = rspCount w' ∧
      w.extractLsb' 0 64 = w'.extractLsb' 0 64 := by
  refine ⟨fun h => by simp [h], fun ⟨herr, hres, hcount, hdata⟩ => ?_⟩
  rw [← rspWord_fields w, ← rspWord_fields w', herr, hres, hcount, rspData, rspData, hdata]

/-- A row's match where its mask leaves out the reserved bits and the data: the error bit and the count decide. -/
theorem rspMatches_iff {w m b : BitVec 72} (hm : rspReservedBits m = 0 ∧ m.extractLsb' 0 64 = 0)
    (hb : rspReservedBits b = 0 ∧ b.extractLsb' 0 64 = 0) :
    w &&& m = b ↔ rspErrBit w &&& rspErrBit m = rspErrBit b ∧ rspCount w &&& rspCount m = rspCount b := by
  obtain ⟨herr, hres, hcount, hdata⟩ := rspFields_and w m
  rw [rspFields_inj, herr, hres, hcount, hdata, hm.1, hm.2, hb.1, hb.2]
  simp

theorem rspMatches_error (w : BitVec 72) :
    w &&& 0x800000000000000000 = 0x800000000000000000 ↔ rspErrBit w = 1 := by
  rw [rspMatches_iff (by decide) (by decide)]
  generalize rspErrBit w = err, rspCount w = count
  revert err count
  decide

theorem rspMatches_short (w : BitVec 72) :
    w &&& 0x880000000000000000 = 0 ↔ rspErrBit w = 0 ∧ (rspCount w).toNat < 8 := by
  rw [rspMatches_iff (by decide) (by decide)]
  generalize rspErrBit w = err, rspCount w = count
  revert err count
  decide

theorem rspMatches_frame (w : BitVec 72) :
    w &&& 0x8F0000000000000000 = 0x080000000000000000 ↔ rspErrBit w = 0 ∧ rspCount w = 8 := by
  rw [rspMatches_iff (by decide) (by decide)]
  generalize rspErrBit w = err, rspCount w = count
  revert err count
  decide

/-- A row that asks for its match and for reserved bits of 0. -/
theorem rspRow_accepts {w mask bits : BitVec 72} {P : Prop} [Decidable P] (h : w &&& mask = bits ↔ P)
    (isRow : Instr → Bool) :
    RspRow.accepts ⟨bits, mask, fun w => w.extractLsb' 68 3 == 0, isRow⟩ w = decide (P ∧ rspReservedBits w = 0) := by
  rw [Bool.decide_and, ← decide_eq_decide.2 h]
  rfl

/-- A row whose mask is empty asks for its condition only. -/
theorem rspRow_accepts_unmasked (w : BitVec 72) (cond : BitVec 72 → Bool) (isRow : Instr → Bool) :
    RspRow.accepts ⟨0, 0, cond, isRow⟩ w = cond w := by
  simp [RspRow.accepts]

/-- R89: what each of the four rows asks of the fields of a word. -/
theorem rspRows_accepts (w : BitVec 72) :
    rspRows.map (fun r => r.accepts w) =
      [decide (rspErrBit w = 1 ∧ rspReservedBits w = 0),
       decide ((rspErrBit w = 0 ∧ (rspCount w).toNat < 8) ∧ rspReservedBits w = 0),
       decide ((rspErrBit w = 0 ∧ rspCount w = 8) ∧ rspReservedBits w = 0), rspIsReserved w] := by
  rw [rspRows, List.map, List.map, List.map, List.map, rspRow_accepts (rspMatches_error w),
    rspRow_accepts (rspMatches_short w), rspRow_accepts (rspMatches_frame w), rspRow_accepts_unmasked]
  rfl

/-- R89: the row a response word decodes to is the one row that accepts it. -/
theorem rsp_onlyRow (w : BitVec 72) (e : Config.TransportError) :
    ∀ r ∈ rspRows, r.accepts w = r.isRow (decodeRsp w e) := by
  rw [← List.map_inj_left, rspRows_accepts]
  obtain h | ⟨hres, herr⟩ | ⟨hres, herr, hcount⟩ | ⟨hres, herr, hcount⟩ := rsp_cases w
  · rw [decodeRsp_reserved h, h]
    rw [rspIsReserved_iff] at h
    change _ = [false, false, false, true]
    generalize rspReservedBits w = res, rspErrBit w = err, rspCount w = count at h ⊢
    revert res err count
    decide
  · rw [decodeRsp_error hres herr, rspIsReserved]
    change _ = [true, false, false, false]
    simp [hres, herr]
  · rw [decodeRsp_short hres herr hcount, rspIsReserved]
    change _ = [false, true, false, false]
    have hne : rspCount w ≠ 8 := fun h => by simp [h] at hcount
    simpa [hres, herr, hcount, hcount.le] using hne
  · rw [decodeRsp_frame hres herr hcount, rspIsReserved]
    change _ = [false, false, true, false]
    simp [hres, herr, hcount]

/-- Settles O4: the four ways of a response word against the four rows, `rsp_onlyRow`. -/
theorem responseDecodesToItsOnlyRow : Obligations.ResponseDecodesToItsOnlyRow := rsp_onlyRow

/-- Settles O5: each word is evaluated by the decoder. -/
theorem specWordsDecode : Obligations.SpecWordsDecode :=
  ⟨by decide, rfl, rfl, by decide, by decide, fun _ => rfl, by decide, by decide⟩

/-! ### What is refused -/

/-- R171, R91: of the commands only opcode `0b11` is refused. -/
theorem exec_decodeCmd_refused (c : CmdWord) (s : State) :
    (∃ r, exec (decodeCmd c) s = .refused r) ↔ c.op = 0b11 := by
  have hnext {k : State → State} : ¬ ∃ r, whenIdle s k = .refused r := by
    unfold whenIdle
    split <;> simp
  have hop : c.op = 0b00 ∨ c.op = 0b01 ∨ c.op = 0b10 ∨ c.op = 0b11 := by
    generalize c.op = op
    revert op
    decide
  obtain h | h | h | h := hop <;> rw [decodeCmd, h]
  · exact iff_of_false hnext (by decide)
  · exact iff_of_false hnext (by decide)
  · exact iff_of_false hnext (by decide)
  · exact iff_of_true ⟨.reservedCommand, rfl⟩ rfl

/-- R24, R91: a response met while busy is refused exactly when its word is reserved. -/
theorem exec_decodeRsp_busy_refused (w : BitVec 72) (e : Config.TransportError) {s : State} (hbusy : s.st ≠ .idle) :
    (∃ r, exec (decodeRsp w e) s = .refused r) ↔ rspIsReserved w = true := by
  by_cases h : rspIsReserved w = true
  · rw [decodeRsp_reserved h]
    exact iff_of_true ⟨.reservedResponse, if_neg hbusy⟩ h
  · have htaken : ∃ k, exec (decodeRsp w e) s = whenBusy s k := by
      rw [decodeRsp, if_neg h]
      split_ifs <;> exact ⟨_, rfl⟩
    obtain ⟨k, hk⟩ := htaken
    rw [hk, whenBusy_busy hbusy]
    exact iff_of_false (by simp) h

theorem isResponse_decodeRsp (w : BitVec 72) (e : Config.TransportError) : isResponse (decodeRsp w e) = true := by
  unfold decodeRsp
  split_ifs <;> rfl

/-- R91: every response is refused in IDLE. -/
theorem exec_response_idle {i : Instr} {s : State} (hi : isResponse i = true) (hidle : s.st = .idle) :
    exec i s = .refused .responseWhileIdle := by
  cases i with
  | rspError | rspShort | rspFrame => exact whenBusy_idle hidle _
  | rspReserved => exact if_pos hidle
  | _ => cases hi

/-- R106: a frame word by itself is SELECT_BLOCK under `KEY`. -/
theorem exec_decodeFrame (w : BitVec 64) (s : State) :
    exec (decodeFrame w) s = evaluate (.selected (selectBlock (bytesView w) s.key)) s := by
  unfold decodeFrame selectBlock
  split <;> rfl

/-- R130: a packet by itself is DECODE of it. -/
theorem exec_decodePacket (p : Packet) (s : State) :
    exec (decodePacket p) s = evaluate (.decoded (decodePacketBytes p)) s := by
  obtain ht | ⟨ht, hc⟩ | ⟨tag, v, rfl⟩ := packet_cases p
  · rw [decodePacket_badTerminator ht, decodePacketBytes_badTerminator ht]
    rfl
  · rw [decodePacket_badSum ht hc, decodePacketBytes_badSum ht hc]
    rfl
  · rw [decodePacket_validPacket, decodePacketBytes_validPacket, exec_kindRow]

/-- Settles O6: each format has the lemma that says when its words are refused, or what they evaluate to. -/
theorem refusedExactlyWhenReserved : Obligations.RefusedExactlyWhenReserved := by
  refine ⟨exec_decodeCmd_refused, fun w e s => ?_, fun w s => ⟨_, exec_decodeFrame w s⟩,
    fun w s => ⟨_, exec_decodePacket (packetOfWord w) s⟩, fun row x key s => ?_⟩
  · by_cases hidle : s.st = .idle
    · exact iff_of_true ⟨_, exec_response_idle (isResponse_decodeRsp w e) hidle⟩ (.inl hidle)
    · exact (exec_decodeRsp_busy_refused w e hidle).trans ((rspIsReserved_iff w).trans (or_iff_right hidle).symm)
  · cases row <;> exact ⟨_, rfl⟩

/-- Settles O7: the two reserved rows by their definitions, the responses in IDLE by `exec_response_idle`. -/
theorem reservedRowsStopByName : Obligations.ReservedRowsStopByName :=
  ⟨fun _ => rfl, fun _ _ _ hbusy => if_neg hbusy, fun _ _ => exec_response_idle⟩

/-! ### What is not read -/

/-- R85: bits 71 to 68 of a response word are `ERR` and the reserved bits. -/
theorem rspErrBit_append_reserved (w : BitVec 72) : rspErrBit w ++ rspReservedBits w = w.extractLsb' 68 4 :=
  BitVec.extractLsb'_append_extractLsb'_eq_extractLsb' rfl

/-- A word with `ERR = 1` and no reserved bit is an error response (R85). -/
theorem decodeRsp_error_of_bits {w : BitVec 72} (h : w.extractLsb' 68 4 = 8) (e : Config.TransportError) :
    decodeRsp w e = .rspError e (rspCount w) (rspData w) := by
  have hfields : rspReservedBits w = 0 ∧ rspErrBit w = 1 := by
    rw [← rspErrBit_append_reserved] at h
    generalize rspReservedBits w = res, rspErrBit w = err at h ⊢
    revert res err
    decide
  exact decodeRsp_error hfields.1 hfields.2 e

/-- A word whose bits 71 to 67 are 0 is a short read: `ERR`, the reserved bits and the top bit of `COUNT` are 0 (R85). -/
theorem decodeRsp_short_of_bits {w : BitVec 72} (h : w.extractLsb' 67 5 = 0) (e : Config.TransportError) :
    decodeRsp w e = .rspShort (rspCount w) (rspData w) := by
  have htop : w.extractLsb' 68 4 ++ w.extractLsb' 67 1 = w.extractLsb' 67 5 :=
    BitVec.extractLsb'_append_extractLsb'_eq_extractLsb' rfl
  have hcount : w.extractLsb' 67 1 ++ w.extractLsb' 64 3 = rspCount w :=
    BitVec.extractLsb'_append_extractLsb'_eq_extractLsb' rfl
  have hfields : rspReservedBits w = 0 ∧ rspErrBit w = 0 ∧ (rspCount w).toNat < 8 := by
    rw [← htop, ← rspErrBit_append_reserved] at h
    rw [← hcount]
    generalize rspReservedBits w = res, rspErrBit w = err, w.extractLsb' 67 1 = top, w.extractLsb' 64 3 = low at h ⊢
    revert res err top low
    decide
  obtain ⟨hres, herr, hlt⟩ := hfields
  exact decodeRsp_short hres herr hlt e

/-- R82: without CONFIGURE's opcode the opcode decides alone. -/
theorem decodeCmd_congr {c c' : CmdWord} (hop : c.op = c'.op) (hne : c.op ≠ 0b00) : decodeCmd c = decodeCmd c' := by
  rw [decodeCmd, decodeCmd, ← hop, if_neg hne, if_neg hne]

/-- Settles O48: the words of a clause decode to one row, and the row's meaning leaves the don't-care operands out. -/
theorem dontCareBitsAreNotRead : Obligations.DontCareBitsAreNotRead := by
  refine ⟨fun w w' e e' s h h' => ?_, fun w w' e s h h' => ?_, fun c c' s hop hne => ?_⟩
  · rw [decode, decode, decodeRsp_short_of_bits h, decodeRsp_short_of_bits h']
    rfl
  · rw [decode, decode, decodeRsp_error_of_bits h, decodeRsp_error_of_bits h']
    rfl
  · rw [decode, decode, decodeCmd_congr hop hne]

end Sys2Proof.Proofs
end

section
/-!
The Frame Decryptor (40_decryptor.md): its stages, their inverses, and the selection of the block.
-/
namespace Sys2Proof.Proofs

open Sys2Proof.Machine Sys2Proof.Safety

/-! ### ROTR3 (R103) -/

@[simp] theorem wordView_rotr3Bytes (x : Bytes8) : wordView (rotr3Bytes x) = (wordView x).rotateRight 3 :=
  wordView_bytesView _

@[simp] theorem wordView_rotl3Bytes (x : Bytes8) : wordView (rotl3Bytes x) = (wordView x).rotateLeft 3 :=
  wordView_bytesView _

theorem wordView_inj {x y : Bytes8} : wordView x = wordView y ↔ x = y :=
  ⟨fun h => by rw [← bytesView_wordView x, h, bytesView_wordView], congrArg _⟩

/-- A byte of a rotated word below the top one: it takes its upper bits from the byte above it. -/
theorem extract_rotateRight (w : BitVec 64) {o : Nat} (ho : o + 16 ≤ 64) :
    (w.rotateRight 3).extractLsb' o 8 = (w.extractLsb' (o + 8) 8 <<< 5) ||| (w.extractLsb' o 8 >>> 3) := by
  ext i hi
  simp only [BitVec.getElem_extractLsb', BitVec.getLsbD_rotateRight, BitVec.getElem_or, BitVec.getElem_shiftLeft,
    BitVec.getElem_ushiftRight, BitVec.getLsbD_extractLsb']
  grind

/-- The top byte of a rotated word takes its upper bits from the bottom one. -/
theorem extract_rotateRight_top (w : BitVec 64) :
    (w.rotateRight 3).extractLsb' 56 8 = (w.extractLsb' 0 8 <<< 5) ||| (w.extractLsb' 56 8 >>> 3) := by
  ext i hi
  simp only [BitVec.getElem_extractLsb', BitVec.getLsbD_rotateRight, BitVec.getElem_or, BitVec.getElem_shiftLeft,
    BitVec.getElem_ushiftRight, BitVec.getLsbD_extractLsb']
  grind

/-- R103: ROTR3 byte by byte. -/
theorem rotr3Bytes_eq (x : Bytes8) :
    rotr3Bytes x =
      ⟨(x.b7 <<< 5) ||| (x.b0 >>> 3), (x.b0 <<< 5) ||| (x.b1 >>> 3), (x.b1 <<< 5) ||| (x.b2 >>> 3),
       (x.b2 <<< 5) ||| (x.b3 >>> 3), (x.b3 <<< 5) ||| (x.b4 >>> 3), (x.b4 <<< 5) ||| (x.b5 >>> 3),
       (x.b5 <<< 5) ||| (x.b6 >>> 3), (x.b6 <<< 5) ||| (x.b7 >>> 3)⟩ := by
  obtain ⟨w, rfl⟩ : ∃ w, x = bytesView w := ⟨_, (bytesView_wordView x).symm⟩
  rw [rotr3Bytes, wordView_bytesView]
  simp only [bytesView, rot, extract_rotateRight_top, extract_rotateRight w (show 48 + 16 ≤ 64 by decide),
    extract_rotateRight w (show 40 + 16 ≤ 64 by decide), extract_rotateRight w (show 32 + 16 ≤ 64 by decide),
    extract_rotateRight w (show 24 + 16 ≤ 64 by decide), extract_rotateRight w (show 16 + 16 ≤ 64 by decide),
    extract_rotateRight w (show 8 + 16 ≤ 64 by decide), extract_rotateRight w (show 0 + 16 ≤ 64 by decide)]

/-- A bit of the word view after any number of rotations. -/
theorem getLsbD_rotr3Bytes_iterate (n : Nat) (x : Bytes8) {i : Nat} (hi : i < 64) :
    (wordView (rotr3Bytes^[n] x)).getLsbD i = (wordView x).getLsbD ((i + 3 * n) % 64) := by
  induction n generalizing i with
  | zero => simp [Nat.mod_eq_of_lt hi]
  | succ n ih =>
    rw [Function.iterate_succ_apply', wordView_rotr3Bytes, BitVec.getLsbD_rotateRight, Bool.cond_decide]
    split
    · rw [ih (by omega)]
      congr 1
      omega
    · rw [ih (by omega)]
      simp only [hi, decide_true, Bool.true_and]
      congr 1
      omega

theorem rotr3Bytes_iterate_64 (x : Bytes8) : rotr3Bytes^[64] x = x := by
  rw [← wordView_inj]
  refine BitVec.eq_of_getLsbD_eq fun i hi => ?_
  rw [getLsbD_rotr3Bytes_iterate 64 x hi]
  congr 1
  omega

/-- The word 1 is moved by fewer than 64 rotations: its only bit comes back to place 0 after 64. -/
theorem rotr3Bytes_iterate_ne {n : Nat} (h0 : 0 < n) (h64 : n < 64) : rotr3Bytes^[n] (bytesView 1) ≠ bytesView 1 := by
  intro h
  have hbit := getLsbD_rotr3Bytes_iterate n (bytesView 1) (i := 0) (by decide)
  rw [h, wordView_bytesView] at hbit
  have : (0 + 3 * n) % 64 = 0 := by simpa using hbit
  omega

/-- Settles O10: the word view, the bytes, the 64th power and the smaller powers each have their lemma;
the examples are evaluated. -/
theorem rotateStage : Obligations.RotateStage := by
  refine ⟨wordView_rotr3Bytes, rotr3Bytes_eq, fun _ _ => rfl, by decide, by decide, fun x => ?_, fun x => ?_,
    rotr3Bytes_iterate_64, fun n h0 h64 => ⟨_, rotr3Bytes_iterate_ne h0 h64⟩, by decide, by decide, fun _ _ => rfl⟩
  · simp [rotr3Bytes_eq]
  · simp [rotr3Bytes_eq]

/-! ### The other stages and DECRYPT -/

/-- Settles O8: PERMUTE's positions are its definition, and the swaps undo themselves. -/
theorem permuteStage : Obligations.PermuteStage :=
  ⟨fun _ => rfl, fun _ => rfl, fun _ => rfl, fun _ _ => rfl, by decide, fun _ _ => rfl⟩

theorem permuteBytes_permuteBytes (f : Bytes8) : permuteBytes (permuteBytes f) = f := rfl

theorem xorKeyBytes_xorKeyBytes (q k : Bytes8) : xorKeyBytes (xorKeyBytes q k) k = q := by
  simp [xorKeyBytes, zipBytes]

/-- Settles O9: XOR_KEY's formula is its definition; the inverse law is `xorKeyBytes_xorKeyBytes`. -/
theorem xorKeyStage : Obligations.XorKeyStage := by
  refine ⟨fun _ _ => rfl, fun _ _ => rfl, fun q => ?_, xorKeyBytes_xorKeyBytes, by decide, fun _ _ _ => rfl⟩
  simp [xorKeyBytes, zipBytes]

/-- Settles O11: the mask is evaluated, and the formula is the definition with its bytes in place. -/
theorem subMaskStage : Obligations.SubMaskStage :=
  ⟨by decide, fun _ => rfl, by decide, fun _ _ => rfl, by decide, by decide, by decide, fun _ _ => rfl⟩

/-- Settles O12: the stages are DECRYPT's definition; the examples are evaluated. -/
theorem decryptIsFourStages : Obligations.DecryptIsFourStages :=
  ⟨fun _ _ => rfl, by decide, by decide, by decide, by decide, by decide, fun _ _ _ => rfl⟩

/-! ### ENCRYPT (R108) -/

theorem rotateRight_rotateLeft (w : BitVec 64) : (w.rotateLeft 3).rotateRight 3 = w := by
  ext i hi
  simp only [BitVec.getElem_rotateRight, BitVec.getElem_rotateLeft]
  grind

theorem rotateLeft_rotateRight (w : BitVec 64) : (w.rotateRight 3).rotateLeft 3 = w := by
  ext i hi
  simp only [BitVec.getElem_rotateLeft, BitVec.getElem_rotateRight]
  grind

theorem rotr3Bytes_rotl3Bytes (x : Bytes8) : rotr3Bytes (rotl3Bytes x) = x := by
  rw [← wordView_inj, wordView_rotr3Bytes, wordView_rotl3Bytes, rotateRight_rotateLeft]

theorem rotl3Bytes_rotr3Bytes (x : Bytes8) : rotl3Bytes (rotr3Bytes x) = x := by
  rw [← wordView_inj, wordView_rotl3Bytes, wordView_rotr3Bytes, rotateLeft_rotateRight]

theorem subMaskBytes_addMaskBytes (c : Bytes8) : subMaskBytes (addMaskBytes c) = c := by
  simp [subMaskBytes, addMaskBytes, zipBytes]

theorem addMaskBytes_subMaskBytes (c : Bytes8) : addMaskBytes (subMaskBytes c) = c := by
  simp [subMaskBytes, addMaskBytes, zipBytes]

/-- R108: each stage of DECRYPT undoes the stage of ENCRYPT it meets. -/
theorem decryptBytes_encryptBytes (c k : Bytes8) : decryptBytes (encryptBytes c k) k = c := by
  rw [decryptBytes, encryptBytes, permuteBytes_permuteBytes, xorKeyBytes_xorKeyBytes, rotr3Bytes_rotl3Bytes,
    subMaskBytes_addMaskBytes]

theorem encryptBytes_decryptBytes (f k : Bytes8) : encryptBytes (decryptBytes f k) k = f := by
  rw [decryptBytes, encryptBytes, addMaskBytes_subMaskBytes, rotl3Bytes_rotr3Bytes, xorKeyBytes_xorKeyBytes,
    permuteBytes_permuteBytes]

/-- Settles O13: `decryptBytes_encryptBytes` undoes the stages one by one. -/
theorem decryptUndoesEncrypt : Obligations.DecryptUndoesEncrypt :=
  ⟨fun _ _ => rfl, wordView_rotl3Bytes, decryptBytes_encryptBytes, by decide⟩

/-- Settles O14: ENCRYPT is the inverse on both sides. -/
theorem decryptIsBijective : Obligations.DecryptIsBijective := fun key =>
  Function.bijective_iff_has_inverse.2
    ⟨fun c => encryptBytes c key, fun f => encryptBytes_decryptBytes f key, fun c => decryptBytes_encryptBytes c key⟩

/-! ### SELECT_BLOCK (R106) -/

theorem selectBlock_eq_ite (f k : Bytes8) : selectBlock f k = if f.b4 = 0x0D then f else decryptBytes f k := by
  split
  · exact selectBlock_clear ‹_› k
  · exact selectBlock_encrypted ‹_› k

/-- R106: a clear frame has the terminator, so it cannot fail as INVALID_MESSAGE. -/
theorem decode_clear_ne_invalidMessage {f : Bytes8} (h : f.b4 = 0x0D) :
    decodePacketBytes (packetize f) ≠ .err .invalidMessage := by
  obtain ⟨ht, -⟩ | ⟨-, -, heq⟩ | ⟨-, -, heq⟩ := decodePacketBytes_cases (packetize f)
  · exact absurd h ht
  · simp [heq]
  · simp [heq]

/-- Settles O15: the clear form and the encrypted form each have their value of SELECT_BLOCK. -/
theorem selectBlockByRawByteFour : Obligations.SelectBlockByRawByteFour := by
  refine ⟨selectBlock_eq_ite, fun f k h => ?_, fun f k h => ?_, fun f k k' h => ?_, fun k => selectBlock_clear rfl k,
    by decide, fun _ _ => rfl, fun _ _ => rfl⟩
  · rw [selectBlock_clear h]
    exact h
  · rw [selectBlock_clear h]
    exact decode_clear_ne_invalidMessage h
  · rw [selectBlock_clear h, selectBlock_clear h]

/-- Settles O16: `exec_decodeFrame`. -/
theorem frameWordGivesSelectedBlock : Obligations.FrameWordGivesSelectedBlock := exec_decodeFrame

/-! ### The Packet Validator by itself (41_validator.md) -/

/-- R133: the 8-bit sum as a number. -/
theorem checksum_eq_iff_toNat (p : Packet) :
    p.checksum = p.tag + p.valueHi + p.valueLo ↔
      p.checksum.toNat = (p.tag.toNat + p.valueHi.toNat + p.valueLo.toNat) % 256 := by
  rw [← BitVec.toNat_inj, BitVec.toNat_add, BitVec.toNat_add]
  omega

/-- Settles O17: the two failures of DECODE, with the sum as a number. -/
theorem validatorChecksTerminatorThenSum : Obligations.ValidatorChecksTerminatorThenSum := by
  refine ⟨fun p => decodePacketBytes_badTerminator, fun p ht hsum => decodePacketBytes_badSum ht ?_, rfl, rfl,
    by decide, by decide, by decide, by decide, by decide, fun _ _ => rfl, fun _ _ => rfl⟩
  rwa [ne_eq, checksum_eq_iff_toNat]

/-- Settles O19: each row is the evaluation of its reading. -/
theorem kindRowsGiveTheirReading : Obligations.KindRowsGiveTheirReading :=
  ⟨fun _ _ => rfl, fun _ _ => rfl, fun _ _ => rfl, fun _ _ _ => rfl⟩

/-- Settles O20: `exec_decodePacket` on the bytes of the word. -/
theorem packetWordGivesDecodeResult : Obligations.PacketWordGivesDecodeResult :=
  fun w s => exec_decodePacket (packetOfWord w) s

/-- Settles O21: every evaluation but FRAME_ENCRYPTED's puts out a term without the state in it. -/
theorem unitsAreStateless : Obligations.UnitsAreStateless := by
  intro i hi hne
  cases i with
  | frameEncrypted f => exact absurd rfl (hne f)
  | configure | readOne | readCombined | cmdReserved | rspError | rspShort | rspFrame | rspReserved => cases hi
  | _ => exact ⟨_, fun _ => rfl⟩

end Sys2Proof.Proofs
end

section
/-!
What an instruction can do where it gives a next state, once for all instructions, and what follows from it: the causes of the
statuses (60_exceptions.md), the frames of commands, responses and evaluations, and what is not read.
-/
namespace Sys2Proof.Proofs

open Sys2Proof.Machine Sys2Proof.Safety

/-! ### The effects of instructions -/

/-- The three commands an RA accepts in IDLE and holds while busy (R171). -/
def IsHeldCommand (i : Instr) : Prop := i = .readOne ∨ i = .readCombined ∨ ∃ key en ms, i = .configure key en ms

/-- Every effect an instruction can have on a state: what it needs, and the next state. -/
inductive Effect (s : State) : Instr → State → Prop
  /-- An accepted CONFIGURE (R172). -/
  | configure (key : Bytes8) (en : Bool) (ms : BitVec 64) (hidle : s.st = .idle) :
      Effect s (.configure key en ms) (configureState key en ms s)
  /-- An accepted READ_ONE (R173). -/
  | readOne (hidle : s.st = .idle) : Effect s .readOne (startReadOne s)
  /-- An accepted READ_COMBINED (R174). -/
  | readCombined (hidle : s.st = .idle) : Effect s .readCombined (startReadCombined s)
  /-- A command held while busy (R171). -/
  | held (i : Instr) (hi : IsHeldCommand i) (hbusy : s.st ≠ .idle) : Effect s i s
  /-- A unit evaluated by itself (D2). -/
  | evaluated (i : Instr) (e : Emission) (hi : isEvaluation i = true) (he : ∀ q, e ≠ .request q) : Effect s i (emit e s)
  /-- A transport error (R176). -/
  | transport (e : Config.TransportError) (count : BitVec 4) (data : Bytes8) (hbusy : s.st ≠ .idle) :
      Effect s (.rspError e count data) (finish .transport none none (some e) s)
  /-- A short read (R177). -/
  | short (count : BitVec 4) (data : Bytes8) (hbusy : s.st ≠ .idle) :
      Effect s (.rspShort count data) (finish .invalidMessage none none none s)
  /-- A full frame that does not decode (R179). -/
  | undecoded (f : Bytes8) (d : DecodeError) (hbusy : s.st ≠ .idle) (hd : frameResult s.key f = .err d) :
      Effect s (.rspFrame f) (finish (errorStatus d) none none none s)
  /-- The reading of a READ_ONE (R180). -/
  | single (f : Bytes8) (r : Reading) (hone : s.st = .busyOne) (hr : frameResult s.key f = .ok r) :
      Effect s (.rspFrame f) (finish .ok (some ((framePacket f s.key).tag, packetValue (framePacket f s.key))) none none s)
  /-- The reading that completes a READ_COMBINED (R182). -/
  | completed (f : Bytes8) (r : Reading) (w c : Value) (hcomb : s.st = .busyComb) (hr : frameResult s.key f = .ok r)
      (hw : (updateSlots r s).tempSlot = some w) (hc : (updateSlots r s).co2Slot = some c) :
      Effect s (.rspFrame f) (finish .ok none (some (w, c)) none (updateSlots r s))
  /-- A reading after the deadline of a READ_COMBINED (R183). -/
  | timedOut (f : Bytes8) (r : Reading) (hcomb : s.st = .busyComb) (hr : frameResult s.key f = .ok r)
      (hopen : (updateSlots r s).tempSlot = none ∨ (updateSlots r s).co2Slot = none)
      (hlate : timeoutExceeded s.tmoEn s.tmoMs s.t0 s.now = true) :
      Effect s (.rspFrame f) (finish .timeout none none none (updateSlots r s))
  /-- A reading after which a READ_COMBINED asks again (R184). -/
  | looped (f : Bytes8) (r : Reading) (hcomb : s.st = .busyComb) (hr : frameResult s.key f = .ok r)
      (hopen : (updateSlots r s).tempSlot = none ∨ (updateSlots r s).co2Slot = none)
      (htime : timeoutExceeded s.tmoEn s.tmoMs s.t0 s.now = false) :
      Effect s (.rspFrame f) (continueLoop (updateSlots r s))

/-! What a slot update leaves in the other fields (R181). -/

section
variable (r : Reading) (s : State)

@[simp] theorem updateSlots_key : (updateSlots r s).key = s.key := by rw [updateSlots_eq]
@[simp] theorem updateSlots_tmoEn : (updateSlots r s).tmoEn = s.tmoEn := by rw [updateSlots_eq]
@[simp] theorem updateSlots_tmoMs : (updateSlots r s).tmoMs = s.tmoMs := by rw [updateSlots_eq]
@[simp] theorem updateSlots_st : (updateSlots r s).st = s.st := by rw [updateSlots_eq]
@[simp] theorem updateSlots_t0 : (updateSlots r s).t0 = s.t0 := by rw [updateSlots_eq]
@[simp] theorem updateSlots_tempSlot : (updateSlots r s).tempSlot = (temperatureOf r).or s.tempSlot := by rw [updateSlots_eq]
@[simp] theorem updateSlots_co2Slot : (updateSlots r s).co2Slot = (co2Of r).or s.co2Slot := by rw [updateSlots_eq]
@[simp] theorem updateSlots_resValid : (updateSlots r s).resValid = s.resValid := by rw [updateSlots_eq]
@[simp] theorem updateSlots_resStatus : (updateSlots r s).resStatus = s.resStatus := by rw [updateSlots_eq]
@[simp] theorem updateSlots_resSingle : (updateSlots r s).resSingle = s.resSingle := by rw [updateSlots_eq]
@[simp] theorem updateSlots_resComb : (updateSlots r s).resComb = s.resComb := by rw [updateSlots_eq]
@[simp] theorem updateSlots_resErr : (updateSlots r s).resErr = s.resErr := by rw [updateSlots_eq]
@[simp] theorem updateSlots_t0Held : (updateSlots r s).t0Held = s.t0Held := by rw [updateSlots_eq]
@[simp] theorem updateSlots_now : (updateSlots r s).now = s.now := by rw [updateSlots_eq]
@[simp] theorem updateSlots_cmdPort : (updateSlots r s).cmdPort = s.cmdPort := by rw [updateSlots_eq]
@[simp] theorem updateSlots_inputs : (updateSlots r s).inputs = s.inputs := by rw [updateSlots_eq]
@[simp] theorem updateSlots_after : (updateSlots r s).after = s.after := by rw [updateSlots_eq]
@[simp] theorem updateSlots_emitted : (updateSlots r s).emitted = s.emitted := by rw [updateSlots_eq]

end

/-- R171: what a command that is accepted or held does. -/
theorem whenIdle_effect {i : Instr} {s t : State} {k : State → State} (hi : IsHeldCommand i)
    (hk : s.st = .idle → Effect s i (k s)) (h : whenIdle s k = .next t) : Effect s i t := by
  obtain ⟨hidle, rfl⟩ | ⟨hbusy, rfl⟩ := whenIdle_next h
  · exact hk hidle
  · exact .held i hi hbusy

/-- R178 to R184: what a full frame does. -/
theorem rspFrame_effect {f : Bytes8} {s t : State} (h : exec (.rspFrame f) s = .next t) : Effect s (.rspFrame f) t := by
  obtain ⟨d, hd, hbusy, rfl⟩ | ⟨r, hr, hone, rfl⟩ | ⟨r, hr, hcomb, rfl⟩ := exec_rspFrame_cases h
  · exact .undecoded f d hbusy hd
  · exact .single f r hone hr
  · obtain ⟨w, c, hw, hc, heq⟩ | ⟨hopen, hlate, heq⟩ | ⟨hopen, htime, heq⟩ := settleCombined_cases (updateSlots r s) <;>
      rw [heq]
    · exact .completed f r w c hcomb hr hw hc
    · exact .timedOut f r hcomb hr hopen (by simpa using hlate)
    · exact .looped f r hcomb hr hopen (by simpa using htime)

/-- An instruction that gives a next state has one of the effects. -/
theorem exec_effect {i : Instr} {s t : State} (h : exec i s = .next t) : Effect s i t := by
  cases i with
  | configure key en ms => exact whenIdle_effect (.inr (.inr ⟨key, en, ms, rfl⟩)) (.configure key en ms) h
  | readOne => exact whenIdle_effect (.inl rfl) .readOne h
  | readCombined => exact whenIdle_effect (.inr (.inl rfl)) .readCombined h
  | cmdReserved => cases h
  | rspError e count data =>
    obtain ⟨hbusy, rfl⟩ := whenBusy_next h
    exact .transport e count data hbusy
  | rspShort count data =>
    obtain ⟨hbusy, rfl⟩ := whenBusy_next h
    exact .short count data hbusy
  | rspFrame f => exact rspFrame_effect h
  | rspReserved w e =>
    simp only [exec, execRspReserved] at h
    split at h <;> cases h
  | _ =>
    cases h
    exact .evaluated _ _ rfl (by simp)

theorem isResponse_of_heldCommand {i : Instr} (hi : IsHeldCommand i) : isResponse i = false := by
  obtain rfl | rfl | ⟨_, _, _, rfl⟩ := hi <;> rfl

theorem isResponse_of_evaluation {i : Instr} (hi : isEvaluation i = true) : isResponse i = false := by
  cases i with
  | rspError | rspShort | rspFrame | rspReserved => cases hi
  | _ => rfl

/-! ### CONFIGURE leaves everything but the configuration and the result registers (R172) -/

section
variable (key : Bytes8) (en : Bool) (ms : BitVec 64) (s : State)

/-- R172: what CONFIGURE writes beside its result. -/
theorem configureState_eq_setResult :
    ∃ v k e m, (v = .ok ∨ v = .invalidTimeout) ∧ (en = false → m = s.tmoMs) ∧
      configureState key en ms s = setResult v { s with key := k, tmoEn := e, tmoMs := m } := by
  obtain ⟨-, -, heq⟩ | ⟨-, heq⟩ := configureState_cases key en ms s
  · exact ⟨.invalidTimeout, s.key, s.tmoEn, s.tmoMs, .inr rfl, fun _ => rfl, heq⟩
  · exact ⟨.ok, key, en, _, .inl rfl, fun hen => by simp [hen], heq⟩

@[simp] theorem configureState_emitted : (configureState key en ms s).emitted = s.emitted := by
  obtain ⟨v, k, e, m, -, -, heq⟩ := configureState_eq_setResult key en ms s
  rw [heq]; rfl

end

/-! ### Outputs and configuration -/

/-- R84: an instruction puts out nothing, an evaluation's output, or a request that carries `ReadTimeoutArg`. -/
theorem Effect.emitted {s t : State} {i : Instr} (h : Effect s i t) :
    t.emitted = s.emitted ∨ (∃ e, (∀ q, e ≠ .request q) ∧ t.emitted = e :: s.emitted) ∨
      t.emitted = .request (readTimeoutArg s.tmoEn s.tmoMs) :: s.emitted := by
  cases h with
  | evaluated _ e _ he => exact .inr (.inl ⟨e, he, rfl⟩)
  | readOne | readCombined => exact .inr (.inr rfl)
  | looped => exact .inr (.inr (by simp))
  | _ => exact .inl (by simp)

/-- R21 to R23: the configuration is CONFIGURE's, in IDLE and with a legal operand. -/
theorem Effect.configuration {s t : State} {i : Instr} (h : Effect s i t) :
    (t.key = s.key ∧ t.tmoEn = s.tmoEn ∧ t.tmoMs = s.tmoMs) ∨
      (s.st = .idle ∧ ∃ key en ms, i = .configure key en ms ∧ (en = false ∨ timeoutInRange ms = true)) := by
  cases h with
  | configure key en ms hidle =>
    obtain ⟨-, -, heq⟩ | ⟨hok, -⟩ := configureState_cases key en ms s
    · exact .inl (by simp [heq])
    · exact .inr ⟨hidle, key, en, ms, rfl, hok⟩
  | _ => exact .inl (by simp)

/-- Settles O44: `Effect.configuration`, with the range check as a proposition. -/
theorem onlyConfigureWritesConfiguration : Obligations.OnlyConfigureWritesConfiguration := by
  intro i s t h hne
  obtain ⟨hkey, hen, hms⟩ | ⟨hidle, key, en, ms, rfl, hok⟩ := (exec_effect h).configuration
  · simp [hkey, hen, hms] at hne
  · refine ⟨hidle, key, en, ms, rfl, fun hen => (timeoutInRange_iff ms).1 (hok.resolve_left ?_)⟩
    simp [hen]

/-! ### How a command in progress ends -/

/-- Settles O38: the effects that end a command in progress, each with its status. -/
theorem statusHasItsCause : Obligations.StatusHasItsCause := by
  intro i s t h ⟨hbusy, hend⟩
  cases exec_effect h with
  | configure _ _ _ hidle | readOne hidle | readCombined hidle => exact absurd hidle hbusy
  | held | evaluated => exact absurd hend hbusy
  | transport e count data => exact ⟨e, count, data, rfl, rfl⟩
  | short count data => exact .inl ⟨count, data, rfl⟩
  | undecoded f d _ hd =>
    cases d with
    | invalidMessage => exact .inr ⟨f, rfl, hd⟩
    | checksum => exact ⟨f, rfl, hd⟩
  | single f r hone hr => exact ⟨f, r, rfl, hr, .inl ⟨hone, rfl⟩⟩
  | completed f r w c hcomb hr => exact ⟨f, r, rfl, hr, .inr ⟨hcomb, rfl⟩⟩
  | timedOut f r hcomb hr _ hlate =>
    obtain ⟨hen, hover⟩ := (timeoutExceeded_iff ..).1 hlate
    exact ⟨⟨f, r, rfl, hr⟩, hcomb, hen, hover⟩
  | looped f r hcomb => simp [hcomb] at hend

/-- Settles O40: TIMEOUT's cause needs a deadline, and so does a request that carries another number than -1. -/
theorem noDeadlineNeverTimesOut : Obligations.NoDeadlineNeverTimesOut := by
  intro i s t hen h
  refine ⟨fun hend ht => ?_, fun q hq => ?_⟩
  · have hcause := statusHasItsCause i s t h hend
    rw [ht] at hcause
    obtain ⟨-, -, htrue, -⟩ := hcause
    simp [hen] at htrue
  · obtain heq | ⟨e, he, heq⟩ | heq := (exec_effect h).emitted
    · simp [heq] at hq
    · rw [heq, List.cons.injEq] at hq
      exact absurd hq.1 (he q)
    · rw [heq, List.cons.injEq, Emission.request.injEq] at hq
      rw [← hq.1, hen]
      rfl

/-! ### Frames -/

/-- R190: a response is taken in a busy state and ends the command, or a READ_COMBINED goes on. Only a reading of a READ_COMBINED
goes to the slots. -/
theorem response_ends_or_loops {i : Instr} {s t : State} (hi : isResponse i = true) (h : exec i s = .next t) :
    (∃ v a b e, t = finish v a b e s) ∨
    ∃ f r, i = .rspFrame f ∧ s.st = .busyComb ∧ frameResult s.key f = .ok r ∧
      ((∃ v a b e, t = finish v a b e (updateSlots r s)) ∨ t = continueLoop (updateSlots r s)) := by
  cases exec_effect h with
  | configure | readOne | readCombined => cases hi
  | held _ hheld => simp [isResponse_of_heldCommand hheld] at hi
  | evaluated _ _ heval => simp [isResponse_of_evaluation heval] at hi
  | transport | short | undecoded | single => exact .inl ⟨_, _, _, _, rfl⟩
  | completed f r _ _ hcomb hr => exact .inr ⟨f, r, rfl, hcomb, hr, .inl ⟨_, _, _, _, rfl⟩⟩
  | timedOut f r hcomb hr => exact .inr ⟨f, r, rfl, hcomb, hr, .inl ⟨_, _, _, _, rfl⟩⟩
  | looped f r hcomb hr => exact .inr ⟨f, r, rfl, hcomb, hr, .inr rfl⟩

/-- Settles O39: the end emits nothing, and the loop emits one request. -/
theorem responseEndsOrAsksOnce : Obligations.ResponseEndsOrAsksOnce := by
  intro i s t hi h
  obtain ⟨v, a, b, e, rfl⟩ | ⟨f, r, -, hcomb, -, ⟨v, a, b, e, rfl⟩ | rfl⟩ := response_ends_or_loops hi h
  · exact .inl ⟨rfl, rfl, rfl⟩
  · exact .inl (by simp)
  · exact .inr (by simp [hcomb])

/-- Settles O41: an end and a loop both leave what they do not write, and the slots move only with a reading. -/
theorem responseFrame : Obligations.ResponseFrame := by
  intro i s t hi h
  obtain ⟨v, a, b, e, rfl⟩ | ⟨f, r, rfl, hcomb, hr, ⟨v, a, b, e, rfl⟩ | rfl⟩ := response_ends_or_loops hi h
  · simp
  · simpa using fun hnone => absurd hr (hnone f r rfl hcomb)
  · simpa using fun hnone => absurd hr (hnone f r rfl hcomb)

/-- Settles O42: an accepted command is `configureState`, `startReadOne` or `startReadCombined`, and a held one is nothing. -/
theorem commandFrame : Obligations.CommandFrame := by
  refine ⟨fun key en ms s t h => ?_, fun i s t hi h => ?_⟩
  · obtain ⟨-, rfl⟩ | ⟨-, rfl⟩ := whenIdle_next h
    · obtain ⟨v, k, e, m, -, hms, heq⟩ := configureState_eq_setResult key en ms s
      simpa [heq] using hms
    · simp
  · obtain rfl | rfl := hi <;> obtain ⟨-, rfl⟩ | ⟨-, rfl⟩ := whenIdle_next h <;> simp

/-- Settles O43: the effect of an evaluation is one entry on the trace. -/
theorem evaluationFrame : Obligations.EvaluationFrame := by
  intro i s t hi h
  cases i with
  | configure | readOne | readCombined | cmdReserved | rspError | rspShort | rspFrame | rspReserved => cases hi
  | _ =>
    cases h
    exact ⟨_, by simp, rfl⟩

/-! ### What a full frame does not read -/

/-- R178: a full frame acts through its packet. -/
theorem takeFrame_congr {f g : Bytes8} {s : State} (h : framePacket f s.key = framePacket g s.key) :
    takeFrame f s = takeFrame g s := by
  rw [takeFrame, takeFrame, h]

/-- Settles O47: blocks that agree in bytes 0 to 4 have one packet. -/
theorem blockTailIsNotRead : Obligations.BlockTailIsNotRead := by
  intro f g s h0 h1 h2 h3 h4
  have hpacket : framePacket f s.key = framePacket g s.key := by
    simp only [framePacket, packetize, h0, h1, h2, h3, h4]
  have hrow (f : Bytes8) : exec (.rspFrame f) s = whenBusy s (takeFrame f) := rfl
  rw [hrow, hrow, whenBusy, whenBusy, takeFrame_congr hpacket]

/-- A change of the state that the RA's loop over readings does not see. -/
structure UnseenByLoop (φ : State → State) : Prop where
  st : ∀ s, (φ s).st = s.st
  slots : ∀ r s, updateSlots r (φ s) = φ (updateSlots r s)
  pair : ∀ s, completedPair (φ s).tempSlot (φ s).co2Slot = completedPair s.tempSlot s.co2Slot
  late : ∀ s, timeoutExceeded (φ s).tmoEn (φ s).tmoMs (φ s).t0 (φ s).now = timeoutExceeded s.tmoEn s.tmoMs s.t0 s.now
  ends : ∀ v a b s, finish v a b none (φ s) = φ (finish v a b none s)
  loops : ∀ s, continueLoop (φ s) = φ (continueLoop s)

/-- R182 to R184 under a change the loop does not see. -/
theorem UnseenByLoop.settleCombined {φ : State → State} (h : UnseenByLoop φ) (s : State) :
    settleCombined (φ s) = φ (settleCombined s) := by
  unfold Machine.settleCombined drawNow
  rw [h.pair, h.late]
  cases completedPair s.tempSlot s.co2Slot with
  | some pair => exact h.ends ..
  | none =>
    cases timeoutExceeded s.tmoEn s.tmoMs s.t0 s.now with
    | true => exact h.ends ..
    | false => exact h.loops s

/-- R180 to R184 under a change the loop does not see. -/
theorem UnseenByLoop.takeReading {φ : State → State} (h : UnseenByLoop φ) (p : Packet) (r : Reading) (s : State) :
    takeReading p r (φ s) = φ (takeReading p r s) := by
  unfold Machine.takeReading
  rw [h.st]
  split
  · exact h.ends ..
  · rw [h.slots, h.settleCombined]

theorem unseenByLoop_key (k : Bytes8) : UnseenByLoop (fun s => { s with key := k }) where
  st _ := rfl
  slots r s := by simp only [updateSlots_eq]
  pair _ := rfl
  late _ := rfl
  ends _ _ _ _ := rfl
  loops _ := rfl

/-- R106: in clear form the packet is the same under every key. -/
theorem takeFrame_clear_key {f : Bytes8} (hclear : f.b4 = 0x0D) (k : Bytes8) (s : State) :
    takeFrame f { s with key := k } = { takeFrame f s with key := k } := by
  have hpacket : framePacket f k = framePacket f s.key := by
    rw [framePacket, framePacket, selectBlock_clear hclear, selectBlock_clear hclear]
  simp only [takeFrame, hpacket]
  cases decodePacketBytes (framePacket f s.key) with
  | ok r => exact (unseenByLoop_key k).takeReading _ r s
  | err d => rfl

/-- Settles O46: a full frame that gives a next state is taken, and in clear form without the key. -/
theorem clearFrameIgnoresKey : Obligations.ClearFrameIgnoresKey := by
  intro f k s t hclear h
  obtain ⟨hbusy, rfl⟩ := whenBusy_next h
  rw [exec_rspFrame_busy f (by exact hbusy), takeFrame_clear_key hclear]

/-! ### Error values (R32, R85; log entry 7) -/

/-- The outcome with the error value its state holds replaced. -/
def renameOutcome (g : Config.TransportError → Config.TransportError) :
    Host.Outcome State Fault Refusal → Host.Outcome State Fault Refusal
  | .next t => .next (renameHeldError g t)
  | .fault r => .fault r
  | .refused r => .refused r

section
variable (g : Config.TransportError → Config.TransportError)

theorem decodeRsp_renameError (w : BitVec 72) (e : Config.TransportError) :
    decodeRsp w (g e) = renameError g (decodeRsp w e) := by
  unfold decodeRsp
  split_ifs <;> rfl

theorem whenIdle_renameHeldError {s : State} {k : State → State}
    (hk : k (renameHeldError g s) = renameHeldError g (k s)) :
    whenIdle (renameHeldError g s) k = renameOutcome g (whenIdle s k) := by
  by_cases h : s.st = .idle
  · rw [whenIdle_idle h, whenIdle_idle (by exact h), hk, renameOutcome]
  · rw [whenIdle_busy h, whenIdle_busy (by exact h), renameOutcome]

theorem whenBusy_renameHeldError {s : State} {k k' : State → State}
    (hk : k' (renameHeldError g s) = renameHeldError g (k s)) :
    whenBusy (renameHeldError g s) k' = renameOutcome g (whenBusy s k) := by
  by_cases h : s.st = .idle
  · rw [whenBusy_idle h, whenBusy_idle (by exact h), renameOutcome]
  · rw [whenBusy_busy h, whenBusy_busy (by exact h), hk, renameOutcome]

theorem configureState_renameHeldError (key : Bytes8) (en : Bool) (ms : BitVec 64) (s : State) :
    configureState key en ms (renameHeldError g s) = renameHeldError g (configureState key en ms s) := by
  unfold configureState
  split <;> rfl

theorem unseenByLoop_renameHeldError : UnseenByLoop (renameHeldError g) where
  st _ := rfl
  slots r s := by simp only [updateSlots_eq, renameHeldError]
  pair _ := rfl
  late _ := rfl
  ends _ _ _ _ := rfl
  loops _ := rfl

theorem takeFrame_renameHeldError (f : Bytes8) (s : State) :
    takeFrame f (renameHeldError g s) = renameHeldError g (takeFrame f s) := by
  have hkey : (renameHeldError g s).key = s.key := rfl
  simp only [takeFrame, hkey]
  cases decodePacketBytes (framePacket f s.key) with
  | err d => rfl
  | ok r => exact (unseenByLoop_renameHeldError g).takeReading _ r s

/-- R32: an instruction passes error values on, whatever they are. -/
theorem exec_renameError (i : Instr) (s : State) :
    exec (renameError g i) (renameHeldError g s) = renameOutcome g (exec i s) := by
  cases i with
  | configure key en ms => exact whenIdle_renameHeldError g (configureState_renameHeldError g key en ms s)
  | readOne | readCombined => exact whenIdle_renameHeldError g rfl
  | rspError | rspShort => exact whenBusy_renameHeldError g rfl
  | rspFrame f => exact whenBusy_renameHeldError g (takeFrame_renameHeldError g f s)
  | rspReserved w e =>
    have hst : (renameHeldError g s).st = s.st := rfl
    simp only [renameError, exec, execRspReserved, hst]
    split <;> rfl
  | _ => rfl

end

/-- Settles O60: the two clauses are `decodeRsp_renameError` and `exec_renameError`. -/
theorem errorValuesAreNotInspected : Obligations.ErrorValuesAreNotInspected := by
  refine ⟨decodeRsp_renameError, fun g i s => ?_⟩
  rw [exec_renameError]
  cases exec i s <;> rfl

end Sys2Proof.Proofs
end

section
/-!
The machine: what a step does with a move, with no move, with a held command and with a reset; what the host reads; and the
invariant of the CORE.
-/
namespace Sys2Proof.Proofs

open Sys2Proof.Machine Sys2Proof.Safety

/-! ### Steps -/

/-- R170: the state in which a listed word is met. -/
theorem fetch_word {s : State} {w : RawWord} {now : Nat} {rest : List Input} (h : s.inputs = .word w now :: rest) :
    fetch s = (some w,
      { s with
        inputs := rest, now := if s.st = .busyComb then max s.now now else now,
        cmdPort := (match w with | .cmd c => if s.st = .idle then none else some c | _ => s.cmdPort) }) := by
  rw [fetch_listed h]
  cases w <;> rfl

/-- What comes after the list is met as if it were listed (log entry 24). -/
theorem step_congr_fetch {s u : State} (h : fetch s = fetch u) : step s = step u := by
  rw [step, step, h]

/-- Settles O49: the fetch of a listed word, and of the two endless forms of what follows the list. -/
theorem stepRunsDecodedWord : Obligations.StepRunsDecodedWord := by
  refine ⟨fun s w now rest h => ?_, fun s m rest hi ha => ?_, fun s n hi ha => ?_⟩
  · rw [step_of_fetch_word (fetch_word h)]
    cases w <;> rfl
  · refine step_congr_fetch ?_
    rw [fetch_repeated hi ha]
    exact (fetch_listed (s := { s with inputs := m :: rest }) rfl).symm
  · refine step_congr_fetch ?_
    rw [fetch_listed (s := { s with inputs := [Config.freeMove n], after := .free (n + 1) }) rfl, fetch, nextMove, hi, ha]
    rfl

/-- R193: surroundings that never move again. -/
theorem fetch_silent {s : State} (hi : s.inputs = []) (ha : s.after = .silent ∨ s.after = .repeated []) :
    fetch s = pollPort s := by
  have hnone : nextMove s = none := by
    obtain ha | ha := ha <;> rw [nextMove, hi, ha]
  rw [fetch, hnone]

theorem pollPort_empty {s : State} (hp : s.cmdPort = none) : pollPort s = (none, s) := by
  rw [pollPort, hp]

theorem pollPort_held {s : State} {c : CmdWord} (hp : s.cmdPort = some c) : pollPort s = (some (.cmd c), settlePort c s) := by
  rw [pollPort, hp]

/-- Settles O50: each move without a word, and the port it looks at. -/
theorem stepWithoutWord : Obligations.StepWithoutWord := by
  refine ⟨fun s now rest hi hp => ?_, fun s c now rest hi hp => ?_, fun s rest hi => ?_, fun s hi ha hp => ?_,
    fun s c hi ha hp => ?_⟩
  · exact step_of_fetch_none ((fetch_listed hi).trans (pollPort_empty hp))
  · exact step_of_fetch_word ((fetch_listed hi).trans (pollPort_held hp))
  · exact step_of_fetch_none (fetch_listed hi)
  · exact step_of_fetch_none ((fetch_silent hi ha).trans (pollPort_empty hp))
  · exact step_of_fetch_word ((fetch_silent hi ha).trans (pollPort_held hp))

/-! ### Commands -/

/-- Settles O28: a READ_ONE met in IDLE is accepted, and its request carries `readTimeoutArg`. -/
theorem readOneStarts : Obligations.ReadOneStarts := by
  intro s hidle
  rw [exec, execReadOne, whenIdle_idle hidle, ← readTimeoutArg_eq]
  rfl

/-- R171: a command met while busy is held. -/
theorem exec_held {i : Instr} {s : State} (hbusy : s.st ≠ .idle) (hi : IsHeldCommand i) : exec i s = .next s := by
  obtain rfl | rfl | ⟨key, en, ms, rfl⟩ := hi <;> exact whenIdle_busy hbusy _

theorem isHeldCommand_decodeCmd {c : CmdWord} (hop : c.op ≠ 0b11) : IsHeldCommand (decodeCmd c) := by
  have hops : c.op = 0b00 ∨ c.op = 0b01 ∨ c.op = 0b10 := by
    generalize c.op = op at hop ⊢
    revert op
    decide
  obtain h | h | h := hops <;> rw [decodeCmd, h]
  · exact .inr (.inr ⟨_, _, _, rfl⟩)
  · exact .inl rfl
  · exact .inr (.inl rfl)

/-- Settles O30: a command met while busy is held (`exec_held`); in IDLE the port is looked at by a step without a move. -/
theorem busyCommandsAreHeld : Obligations.BusyCommandsAreHeld := by
  refine ⟨fun s i hbusy hi => exec_held hbusy hi, fun _ => rfl, fun s c now rest hbusy hop hin => ⟨_, ?_, rfl⟩,
    fun s c hidle hin ha hp => ?_⟩
  · rw [step_of_fetch_word (fetch_word hin)]
    simp only [hbusy, if_false]
    exact exec_held hbusy (isHeldCommand_decodeCmd hop)
  · rw [step_of_fetch_word ((fetch_silent hin (.inl ha)).trans (pollPort_held hp)), settlePort, hidle, if_pos rfl]

/-! ### Reset and host reads -/

/-- Settles O51: the step is `resetRegisters`, whose fields are known, and IDLE refuses every response. -/
theorem resetInputResets : Obligations.ResetInputResets := by
  intro s rest hin
  refine ⟨resetRegisters (popInput rest s), step_of_fetch_none (fetch_listed hin), rfl, rfl, rfl, rfl, rfl, rfl, rfl, rfl,
    rfl, rfl, rfl, rfl, rfl, fun w e => exec_response_idle (isResponse_decodeRsp w e) rfl⟩

/-- Settles O52: the values of `State.reset`. -/
theorem resetStateValues : Obligations.ResetStateValues :=
  ⟨rfl, rfl, rfl, rfl, rfl, rfl, rfl, rfl, rfl, rfl, rfl, rfl⟩

section
variable {s : State}

theorem hostSingle_valid (hv : s.resValid = true) : hostSingle s = some s.resSingle := if_pos hv

theorem hostSingle_invalid (hv : s.resValid = false) : hostSingle s = none := if_neg (by simp [hv])

theorem hostComb_valid (hv : s.resValid = true) : hostComb s = some s.resComb := if_pos hv

theorem hostComb_invalid (hv : s.resValid = false) : hostComb s = none := if_neg (by simp [hv])

/-- R33: the scaled outputs and the kind code of a readable single result. -/
theorem single_reads {tag : Byte} {v : Value} (hv : s.resValid = true) (hs : s.resSingle = some (tag, v)) :
    resSingleReal s = scaledExact (readingOf tag v) ∧ resSingleF32 s = scaledF32 (readingOf tag v) ∧
      singleKindCode s = some (kindCode (kindOf tag)) := by
  have hread : singleReading s = some (readingOf tag v) := by rw [singleReading, hostSingle_valid hv, hs]
  refine ⟨?_, ?_, ?_⟩
  · rw [resSingleReal, hread, Option.bind_some]
  · rw [resSingleF32, hread, Option.bind_some]
  · rw [singleKindCode, hostSingle_valid hv, hs]

/-- R28, R33: where no single result can be read there is no scaled output. -/
theorem single_reads_none (h : hostSingle s = none ∨ hostSingle s = some none) :
    resSingleReal s = none ∧ resSingleF32 s = none ∧ singleKindCode s = none := by
  have hread : singleReading s = none := by obtain h | h := h <;> rw [singleReading, h]
  refine ⟨?_, ?_, ?_⟩
  · rw [resSingleReal, hread, Option.bind_none]
  · rw [resSingleF32, hread, Option.bind_none]
  · obtain h | h := h <;> rw [singleKindCode, h]

theorem hostSingle_none (hs : s.resSingle = none) : hostSingle s = none ∨ hostSingle s = some none := by
  cases hv : s.resValid with
  | false => exact .inl (hostSingle_invalid hv)
  | true => exact .inr (by rw [hostSingle_valid hv, hs])

end

/-- Settles O53: each read by RES_VALID, and a readable single result by the kind of its tag. -/
theorem hostReadsOnlyValidResults : Obligations.HostReadsOnlyValidResults := by
  refine ⟨fun _ => ⟨rfl, rfl⟩, fun s hv => ?_, fun s hv => ?_, fun s w c hv hc => ?_, fun s hc => ?_,
    fun s v hv hs => single_reads hv hs, fun s v hv hs => single_reads hv hs, fun s v hv hs => single_reads hv hs,
    fun s tag v hv hs h41 h42 h50 => ?_, fun s hs => single_reads_none (hostSingle_none hs), rfl, rfl⟩
  · obtain ⟨hreal, hf32, hcode⟩ := single_reads_none (.inl (hostSingle_invalid hv))
    refine ⟨if_neg (by simp [hv]), hostSingle_invalid hv, hostComb_invalid hv, if_neg (by simp [hv]), hreal, hf32, hcode, ?_⟩
    rw [resCombTempF32, hostComb_invalid hv]
  · exact ⟨if_pos hv, if_pos hv, if_pos hv, if_pos hv⟩
  · rw [resCombTempF32, hostComb_valid hv, hc]
  · cases hv : s.resValid with
    | false => rw [resCombTempF32, hostComb_invalid hv]
    | true => rw [resCombTempF32, hostComb_valid hv, hc]
  · have hread : readingOf tag v = .unknown tag v := by
      rw [readingOf_eq_ite, if_neg h41, if_neg h42, if_neg h50]
    have hkind : kindOf tag = .unknown := by
      obtain ⟨h, -⟩ | ⟨h, -⟩ | ⟨h, -⟩ | ⟨-, -, -, hk⟩ := kindOf_cases tag
      · exact absurd h h41
      · exact absurd h h42
      · exact absurd h h50
      · exact hk
    have h := single_reads hv hs
    rw [hread, hkind] at h
    exact h

/-! ### Everything a step can do -/

/-- A state that differs from `s` in the surroundings only: the schedule, the port and the time input, which does not fall within
a READ_COMBINED (R188). -/
def MeetsIn (s u : State) : Prop :=
  ∃ rest aft port now, (s.st = .busyComb → s.now ≤ now) ∧
    u = { s with inputs := rest, after := aft, cmdPort := port, now := now }

theorem meetsIn_pollPort {s u : State} {x : Option RawWord} (h : pollPort s = (x, u)) : MeetsIn s u := by
  unfold pollPort at h
  split at h <;> cases h <;> exact ⟨_, _, _, _, fun _ => le_rfl, rfl⟩

theorem le_advanceTime (t : Nat) {s : State} (hcomb : s.st = .busyComb) : s.now ≤ (advanceTime t s).now := by
  simp [hcomb]

/-- A move brings a reset, or moves the surroundings only. -/
theorem makeMove_reset_or_meetsIn (m : Input) (s : State) :
    (m = .reset ∧ makeMove m s = (none, resetRegisters s)) ∨ MeetsIn s (makeMove m s).2 := by
  obtain ⟨w, now, port, h⟩ | ⟨now, h⟩ | ⟨-, h⟩ | ⟨hm, h⟩ := makeMove_cases m s
  · exact .inr (h ▸ ⟨_, _, port, _, le_advanceTime now, rfl⟩)
  · exact .inr (h ▸ ⟨_, _, _, _, le_advanceTime now, rfl⟩)
  · exact .inr (h ▸ ⟨_, _, _, _, fun _ => le_rfl, rfl⟩)
  · exact .inl ⟨hm, h⟩

/-- Everything a step can do: reset the registers, wait, or run an instruction where the surroundings have moved. -/
theorem step_cases {s t : State} (h : step s = .next t) :
    (∃ u v, nextMove s = some (.reset, u) ∧ MeetsIn s v ∧ t = resetRegisters v) ∨
    ∃ u, MeetsIn s u ∧ (t = u ∨ ∃ i, exec i u = .next t) := by
  have hruns {u : State} {x : Option RawWord} (hf : fetch s = (x, u)) : t = u ∨ ∃ i, exec i u = .next t := by
    rw [step, hf] at h
    cases x with
    | none => cases h; exact .inl rfl
    | some w => exact .inr ⟨_, h⟩
  obtain ⟨-, hf⟩ | ⟨m, rest, aft, hm, hf⟩ := fetch_cases s
  · exact .inr ⟨_, meetsIn_pollPort rfl, hruns hf⟩
  · obtain ⟨rfl, hr⟩ | ⟨_, _, port, now, hnow, hu⟩ := makeMove_reset_or_meetsIn m { s with inputs := rest, after := aft }
    · rw [step_of_fetch_none (hf.trans hr)] at h
      cases h
      exact .inl ⟨_, _, hm, ⟨rest, aft, _, _, fun _ => le_rfl, rfl⟩, rfl⟩
    · exact .inr ⟨_, ⟨_, _, port, now, hnow, hu⟩, hruns hf⟩

/-- Settles O45: without a reset a step runs an instruction at most, and in a busy state none of them writes the configuration. -/
theorem busyStepKeepsConfiguration : Obligations.BusyStepKeepsConfiguration := by
  intro s t hbusy hreset h
  obtain ⟨u, -, hm, -, -⟩ | ⟨u, ⟨rest, aft, port, now, -, rfl⟩, rfl | ⟨i, hi⟩⟩ := step_cases h
  · exact absurd hm (hreset u)
  · exact ⟨rfl, rfl, rfl⟩
  · exact (exec_effect hi).configuration.resolve_right fun ⟨hidle, _⟩ => hbusy hidle

/-- R188: an instruction met in BUSY_COMB leaves `T0` and the time input. -/
theorem Effect.time {s t : State} {i : Instr} (h : Effect s i t) (hcomb : s.st = .busyComb) :
    t.t0 = s.t0 ∧ t.now = s.now := by
  cases h with
  | configure _ _ _ hidle | readOne hidle | readCombined hidle => simp [hcomb] at hidle
  | _ => simp

/-- Settles O54: the surroundings do not lower the time input within a READ_COMBINED, no instruction moves it, and a later time on
the schedule is taken as it is. -/
theorem timeNeverFallsInReadCombined : Obligations.TimeNeverFallsInReadCombined := by
  refine ⟨fun s t hcomb htcomb h => ?_, fun s now rest hcomb hp hle hin => ⟨_, stepWithoutWord.1 s now rest hin hp, ?_, hcomb⟩⟩
  · obtain ⟨_, v, -, -, rfl⟩ | ⟨u, ⟨rest, aft, port, now, hnow, rfl⟩, rfl | ⟨i, hi⟩⟩ := step_cases h
    · cases htcomb
    · exact ⟨hnow hcomb, rfl⟩
    · obtain ⟨ht0, htnow⟩ := (exec_effect hi).time hcomb
      exact ⟨htnow ▸ hnow hcomb, ht0⟩
  · simp [hcomb, hle]

/-! ### The invariant of the CORE -/

/-- Settles O57: every clause is about a field with a known reset value. -/
theorem resetMeetsInvariant : Obligations.ResetMeetsInvariant := by
  refine ⟨?_, ?_, ?_, ?_, ?_, ?_, ?_, ?_⟩ <;> simp [State.reset]

/-- A number of 31 bits as a 32-bit signed one. -/
theorem toInt_ofNat_of_lt {n : Nat} (h : n < 2 ^ 31) : (BitVec.ofNat 32 n).toInt = n := by
  have hn : (BitVec.ofNat 32 n).toNat = n := by
    rw [BitVec.toNat_ofNat]
    omega
  rw [BitVec.toInt_eq_toNat_of_lt (by omega), hn]

/-- R84, R175: the argument of a read is -1 or a number of 31 bits. -/
theorem readTimeoutArg_legal (en : Bool) (ms : BitVec 31) : -1 ≤ (readTimeoutArg en ms).toInt := by
  rw [readTimeoutArg_eq]
  split
  · rw [toInt_ofNat_of_lt ms.isLt]
    omega
  · decide

/-- Requests stay legal with what an instruction puts out. -/
theorem Effect.requests_legal {s t : State} {i : Instr} (h : Effect s i t)
    (hs : ∀ q, Emission.request q ∈ s.emitted → -1 ≤ q.toInt) : ∀ q, Emission.request q ∈ t.emitted → -1 ≤ q.toInt := by
  intro q hq
  obtain heq | ⟨e, he, heq⟩ | heq := h.emitted
  · exact hs q (heq ▸ hq)
  · rw [heq, List.mem_cons] at hq
    exact hs q (hq.resolve_left fun h => he q h.symm)
  · rw [heq, List.mem_cons, Emission.request.injEq] at hq
    obtain rfl | hq := hq
    · exact readTimeoutArg_legal _ _
    · exact hs q hq

/-- The invariant does not read the schedule or the port, and it lets the time input rise. -/
theorem coreInv_of_meetsIn {s u : State} (h : CoreInv s) (hu : MeetsIn s u) : CoreInv u := by
  obtain ⟨rest, aft, port, now, hnow, rfl⟩ := hu
  exact { h with comb_origin := fun hcomb => ⟨(h.comb_origin hcomb).1, (h.comb_origin hcomb).2.trans (hnow hcomb)⟩ }

/-- A reset keeps the outputs and gives every register its reset value. -/
theorem coreInv_resetRegisters {s : State} (h : CoreInv s) : CoreInv (resetRegisters s) where
  busy_unreadable hbusy := absurd rfl hbusy
  comb_origin hcomb := by cases hcomb
  comb_open hcomb := by cases hcomb
  single_ok := by simp
  comb_ok := by simp
  err_transport := by simp
  comb_slots := by simp
  requests_legal := h.requests_legal

/-- The end of a command keeps the invariant where its results fit its status and the slots (R186). -/
theorem coreInv_finish {s : State} {v : Status} {single : Option (Byte × Value)} {comb : Option (Value × Value)}
    {err : Option Config.TransportError} (hreq : ∀ q, Emission.request q ∈ s.emitted → -1 ≤ q.toInt)
    (hsingle : single.isSome → v = .ok) (hcomb : comb.isSome → v = .ok ∧ single = none)
    (herr : err.isSome ↔ v = .transport)
    (hslots : ∀ w c, comb = some (w, c) → s.tempSlot = some w ∧ s.co2Slot = some c) :
    CoreInv (finish v single comb err s) where
  busy_unreadable hbusy := absurd rfl hbusy
  comb_origin hcomb := by cases hcomb
  comb_open hcomb := by cases hcomb
  single_ok := hsingle
  comb_ok := hcomb
  err_transport := herr
  comb_slots w c _ := hslots w c
  requests_legal := hreq

/-- In IDLE the end of a CONFIGURE is the end of a command without a result (R172, R186). -/
theorem setResult_eq_finish {v : Status} {s : State} (hidle : s.st = .idle) :
    setResult v s = finish v none none none s := by
  rw [setResult, finish, ← hidle]

/-- An accepted READ keeps the old results out of reach (R173, R174). -/
theorem coreInv_of_started {s t : State} (h : CoreInv s) (hvalid : t.resValid = false)
    (hstatus : t.resStatus = s.resStatus) (hsingle : t.resSingle = s.resSingle) (hcomb : t.resComb = s.resComb)
    (herr : t.resErr = s.resErr) (horigin : t.st = .busyComb → t.t0Held = true ∧ t.t0 ≤ t.now)
    (hopen : t.st = .busyComb → t.tempSlot = none ∨ t.co2Slot = none)
    (hreq : ∀ q, Emission.request q ∈ t.emitted → -1 ≤ q.toInt) : CoreInv t where
  busy_unreadable _ := hvalid
  comb_origin := horigin
  comb_open := hopen
  single_ok := by rw [hsingle, hstatus]; exact h.single_ok
  comb_ok := by rw [hcomb, hsingle, hstatus]; exact h.comb_ok
  err_transport := by rw [herr, hstatus]; exact h.err_transport
  comb_slots w c hv := by simp [hvalid] at hv
  requests_legal := hreq

/-- Every effect of an instruction keeps the invariant. -/
theorem Effect.coreInv {s t : State} {i : Instr} (heff : Effect s i t) (h : CoreInv s) : CoreInv t := by
  have hreq := heff.requests_legal h.requests_legal
  cases heff with
  | configure key en ms hidle =>
    obtain ⟨v, k, e, m, hv, -, heq⟩ := configureState_eq_setResult key en ms s
    rw [heq] at hreq ⊢
    rw [setResult_eq_finish (by exact hidle)]
    refine coreInv_finish hreq (by simp) (by simp) ?_ (by simp)
    obtain rfl | rfl := hv <;> simp
  | readOne => exact coreInv_of_started h rfl rfl rfl rfl rfl (by simp) (by simp) hreq
  | readCombined => exact coreInv_of_started h rfl rfl rfl rfl rfl (by simp) (by simp) hreq
  | held => exact h
  | evaluated => exact { h with requests_legal := hreq }
  | transport | short | single => exact coreInv_finish hreq (by simp) (by simp) (by simp) (by simp)
  | undecoded _ d => exact coreInv_finish hreq (by simp) (by simp) (by cases d <;> simp [errorStatus]) (by simp)
  | completed _ _ w c _ _ hw hc =>
    refine coreInv_finish hreq (by simp) (by simp) (by simp) fun w' c' heq => ?_
    cases heq
    exact ⟨hw, hc⟩
  | timedOut => exact coreInv_finish hreq (by simp) (by simp) (by simp) (by simp)
  | looped _ _ hcomb _ hopen =>
    have hvalid := h.busy_unreadable (by simp [hcomb])
    have horigin := h.comb_origin hcomb
    exact coreInv_of_started h (by simpa using hvalid) (by simp) (by simp) (by simp) (by simp)
      (fun _ => by simpa using horigin) (fun _ => hopen) hreq

/-- Settles O58: the surroundings, the reset input and every effect of an instruction keep the invariant. -/
theorem stepKeepsInvariant : Obligations.StepKeepsInvariant := by
  intro s t h hstep
  obtain ⟨_, v, -, hv, rfl⟩ | ⟨u, hu, rfl | ⟨i, hi⟩⟩ := step_cases hstep
  · exact coreInv_resetRegisters (coreInv_of_meetsIn h hv)
  · exact coreInv_of_meetsIn h hu
  · exact (exec_effect hi).coreInv (coreInv_of_meetsIn h hu)

end Sys2Proof.Proofs
end

section
/-!
The timeout argument under the other policy (42_accumulator.md R175), and runs of the machine: waiting, looping without end, and
the answer of a READ_COMBINED.
-/
namespace Sys2Proof.Proofs

open Sys2Proof.Machine Sys2Proof.Safety

/-! ### The argument of a loop read under REMAINING -/

theorem not_timeoutExceeded {ms : BitVec 31} {t0 now : Nat} (h : timeoutExceeded true ms t0 now = false) :
    now - t0 ≤ budgetUnits ms := by
  rw [← Bool.not_eq_true, timeoutExceeded_iff] at h
  exact Nat.le_of_not_lt fun hlt => h ⟨rfl, hlt⟩

theorem remainingMs_le (ms : BitVec 31) (t0 now : Nat) : remainingMs ms t0 now ≤ ms.toNat :=
  Nat.div_le_of_le_mul (by rw [mul_comm]; exact Nat.sub_le _ _)

theorem loopTimeoutArg_remaining (ms : BitVec 31) (t0 now : Nat) :
    (loopTimeoutArg .remaining true ms t0 now).toInt = remainingMs ms t0 now :=
  toInt_ofNat_of_lt (lt_of_le_of_lt (remainingMs_le ms t0 now) ms.isLt)

/-- The time left as a rational number. -/
theorem cast_timeLeft {ms : BitVec 31} {t0 now : Nat} (h : now - t0 ≤ budgetUnits ms) :
    ((budgetUnits ms - (now - t0) : Nat) : Rat) = (ms.toNat : Rat) * Config.upm - ((now - t0 : Nat) : Rat) := by
  rw [Nat.cast_sub h, budgetUnits, Nat.cast_mul]

/-- Settles O37: the argument is `remainingMs`, the quotient of the time left by `UPM` rounded down. -/
theorem remainingArgumentInBudget : Obligations.RemainingArgumentInBudget := by
  intro ms t0 now h
  have hleft := cast_timeLeft (not_timeoutExceeded h)
  rw [loopTimeoutArg_remaining, ← hleft]
  refine ⟨Int.natCast_nonneg _, Int.ofNat_le.2 (remainingMs_le ms t0 now), ?_, fun hle => ?_, rfl⟩
  · rw [Int.cast_natCast]
    exact Nat.cast_div_le
  · rw [Nat.cast_sub hle] at hleft
    rw [← hleft, Rat.floor_natCast_div_natCast, ← Int.natCast_ediv, remainingMs]

/-! ### Waiting without bound (R193) -/

/-- A busy RA with nothing but a held command before it stays as it is. -/
theorem step_waits {s : State} (hbusy : s.st ≠ .idle) (hin : s.inputs = []) (ha : s.after = .silent)
    (hheld : ∀ c, s.cmdPort = some c → c.op ≠ 0b11) : step s = .next s := by
  have hf := fetch_silent hin (.inl ha)
  cases hp : s.cmdPort with
  | none => exact step_of_fetch_none (hf.trans (pollPort_empty hp))
  | some c =>
    have hport : settlePort c s = s := by
      rw [settlePort, if_neg hbusy, ← hp]
    rw [step_of_fetch_word (hf.trans (pollPort_held hp)), hport]
    exact exec_held hbusy (isHeldCommand_decodeCmd (hheld c hp))

/-- Settles O55: by induction on the number of steps, each of which is `step_waits`. -/
theorem busyWaitsWithoutBound : Obligations.BusyWaitsWithoutBound := by
  intro n s hbusy hin ha hheld
  induction n with
  | zero => rfl
  | succ n ih => rw [run_next n (step_waits hbusy hin ha hheld), ih]

/-! ### A READ_COMBINED that goes on without end (R185) -/

/-- A humidity reading in clear form: the loop takes it and fills no slot, under every key. -/
def quietFrame : Bytes8 × Nat := (⟨0x41, 0, 0, 0x41, 0x0D, 0, 0, 0⟩, 0)

/-- The state after a frame that is answered with a request of -1, the moves after it left on the schedule. -/
def askedAgain (rest : List Input) (s : State) : State :=
  { s with inputs := rest, emitted := .request (BitVec.ofInt 32 (-1)) :: s.emitted }

theorem frameResult_quietFrame (key : Bytes8) : frameResult key quietFrame.1 = .ok (.humidity 0) := by
  rw [frameResult, if_pos (by rfl)]
  decide

/-- R175, R184: under the policy of the model a loop read carries what the first read carried. -/
theorem continueLoop_eq (s : State) : continueLoop s = emitRequest (readTimeoutArg s.tmoEn s.tmoMs) s := rfl

/-- Without a deadline a quiet frame is answered with a request that carries -1, and nothing else changes. -/
theorem takeFrame_quietFrame {s : State} (hcomb : s.st = .busyComb) (hen : s.tmoEn = false) (htemp : s.tempSlot = none) :
    takeFrame quietFrame.1 s = askedAgain s.inputs s := by
  have htime : ¬ timeoutExceeded s.tmoEn s.tmoMs s.t0 s.now = true := by simp [timeoutExceeded, hen]
  have hask : readTimeoutArg s.tmoEn s.tmoMs = BitVec.ofInt 32 (-1) := by rw [readTimeoutArg_eq, hen]; rfl
  rw [takeFrame_busyComb hcomb (frameResult_quietFrame s.key)]
  change settleCombined s = _
  rw [settleCombined_open (.inl htemp), if_neg htime, continueLoop_eq, hask]
  rfl

/-- A step that meets a quiet frame keeps the READ_COMBINED in progress. -/
theorem step_meets_quietFrame {s : State} {rest : List Input} (hcomb : s.st = .busyComb) (hen : s.tmoEn = false)
    (htemp : s.tempSlot = none) (hf : fetch s = makeMove (frameInput quietFrame) (popInput rest s)) :
    step s = .next (askedAgain rest s) := by
  rw [step_meets_frame hf hcomb, takeFrame_quietFrame (by exact hcomb) (by exact hen) (by exact htemp)]
  simp [askedAgain, popInput, quietFrame]

theorem run_listed_quietFrames (n : Nat) (s : State) (hcomb : s.st = .busyComb) (hen : s.tmoEn = false)
    (htemp : s.tempSlot = none) (hin : s.inputs = (List.replicate n quietFrame).map frameInput) :
    ∃ t, Host.Core.run Sys2Proof.core n s = .next t ∧ t.st = .busyComb := by
  induction n generalizing s with
  | zero => exact ⟨s, rfl, hcomb⟩
  | succ n ih =>
    have hstep := step_meets_quietFrame hcomb hen htemp (fetch_listed hin)
    obtain ⟨t, ht, htcomb⟩ := ih (askedAgain _ s) hcomb hen htemp rfl
    exact ⟨t, (run_next n hstep).trans ht, htcomb⟩

theorem run_repeated_quietFrame (n : Nat) (s : State) (hcomb : s.st = .busyComb) (hen : s.tmoEn = false)
    (htemp : s.tempSlot = none) (hin : s.inputs = []) (ha : s.after = .repeated [frameInput quietFrame]) :
    ∃ t, Host.Core.run Sys2Proof.core n s = .next t ∧ t.st = .busyComb ∧
      t.emitted = List.replicate n (.request (BitVec.ofInt 32 (-1))) ++ s.emitted := by
  induction n generalizing s with
  | zero => exact ⟨s, rfl, hcomb, rfl⟩
  | succ n ih =>
    have hstep := step_meets_quietFrame hcomb hen htemp (fetch_repeated hin ha)
    obtain ⟨t, ht, htcomb, hemit⟩ := ih (askedAgain [] s) hcomb hen htemp rfl ha
    refine ⟨t, (run_next n hstep).trans ht, htcomb, ?_⟩
    rw [hemit, List.replicate_succ', List.append_assoc]
    rfl

/-- Settles O56: quiet frames, listed or made over and over, each answered by `step_meets_quietFrame`. -/
theorem unboundedLoopIsAdmitted : Obligations.UnboundedLoopIsAdmitted :=
  ⟨fun n s hcomb hen htemp => ⟨List.replicate n quietFrame, List.length_replicate,
      run_listed_quietFrames n { s with inputs := _ } hcomb hen htemp rfl⟩,
    fun s hcomb hen htemp hin => ⟨[quietFrame], fun n =>
      run_repeated_quietFrame n { s with after := _ } hcomb hen htemp hin rfl⟩⟩

/-! ### The answer of a READ_COMBINED (R191) -/

theorem lastTemperature_cons (r : Reading) (rs : List Reading) (slot : Option Value) :
    (lastTemperature (r :: rs)).or slot = (lastTemperature rs).or ((temperatureOf r).or slot) := by
  rw [lastTemperature, List.reverse_cons, List.findSome?_append, Option.or_assoc]
  simp [lastTemperature]

theorem lastCo2_cons (r : Reading) (rs : List Reading) (slot : Option Value) :
    (lastCo2 (r :: rs)).or slot = (lastCo2 rs).or ((co2Of r).or slot) := by
  rw [lastCo2, List.reverse_cons, List.findSome?_append, Option.or_assoc]
  simp [lastCo2]

/-- The three ends of a READ_COMBINED run, with what the slots of `s` held before the readings. -/
def CombinedRunEnds (s t : State) (rs : List Reading) : Prop :=
  (t.st = .busyComb ∧ t.tempSlot = (lastTemperature rs).or s.tempSlot ∧ t.co2Slot = (lastCo2 rs).or s.co2Slot) ∨
  (t.st = .idle ∧ t.resStatus = .ok ∧
    ∃ w c, (lastTemperature rs).or s.tempSlot = some w ∧ (lastCo2 rs).or s.co2Slot = some c ∧ t.resComb = some (w, c)) ∨
  (t.st = .idle ∧ t.resStatus = .timeout ∧
    ((lastTemperature rs).or s.tempSlot = none ∨ (lastCo2 rs).or s.co2Slot = none) ∧ s.tmoEn = true ∧
    s.tmoMs.toNat * Config.upm < t.now - s.t0)

/-- Once IDLE, a run over frames goes on only where no frame is left (R91). -/
theorem run_idle_frames {s t : State} {fs : List (Bytes8 × Nat)} (hidle : s.st = .idle) (hin : s.inputs = fs.map frameInput)
    (h : Host.Core.run Sys2Proof.core fs.length s = .next t) : fs = [] ∧ t = s := by
  cases fs with
  | nil => cases h; exact ⟨rfl, rfl⟩
  | cons f fs =>
    rw [List.length_cons, run_refused _ (step_meets_frame_idle (fetch_listed hin) hidle)] at h
    cases h

/-- R181 to R184: a reading met in BUSY_COMB goes to its slot, and the loop is settled on the slots. -/
theorem step_meets_reading {s : State} {f : Bytes8 × Nat} {rest : List Input} {r : Reading} (hcomb : s.st = .busyComb)
    (hin : s.inputs = frameInput f :: rest) (hr : frameResult s.key f.1 = .ok r) :
    step s = .next (settleCombined (updateSlots r { s with inputs := rest, now := max s.now f.2 })) := by
  have htake := takeFrame_busyComb (f := f.1) (s := { s with inputs := rest, now := max s.now f.2 }) hcomb hr
  rw [← updateSlots_eq] at htake
  exact (step_meets_frame (fetch_listed hin) hcomb).trans (congrArg _ htake)

/-- The ends of a run from where the loop goes on after a reading are those of the whole run. -/
theorem combinedRunEnds_of_looped {s t : State} {r : Reading} {rs : List Reading} {rest : List Input} {now : Nat}
    (h : CombinedRunEnds (continueLoop (updateSlots r { s with inputs := rest, now := now })) t rs) :
    CombinedRunEnds s t (r :: rs) := by
  simpa [CombinedRunEnds, lastTemperature_cons, lastCo2_cons] using h

/-- By induction on the frames: a frame ends the command, and then it was the last, or the loop goes on with its slots. -/
theorem combinedRun_ends (fs : List (Bytes8 × Nat)) (rs : List Reading) (s t : State) (hcomb : s.st = .busyComb)
    (hin : s.inputs = fs.map frameInput) (hrs : fs.map (fun f => frameResult s.key f.1) = rs.map DecodeResult.ok)
    (h : Host.Core.run Sys2Proof.core fs.length s = .next t) : CombinedRunEnds s t rs := by
  induction fs generalizing rs s with
  | nil =>
    obtain rfl : rs = [] := by simpa using hrs.symm
    cases h
    exact .inl ⟨hcomb, rfl, rfl⟩
  | cons f fs ih =>
    obtain _ | ⟨r, rs⟩ := rs
    · simp at hrs
    rw [List.map_cons, List.map_cons, List.cons.injEq] at hrs
    obtain ⟨hr, hrs⟩ := hrs
    have hrun := (run_next fs.length (step_meets_reading hcomb hin hr)).symm.trans h
    obtain ⟨w, c, hw, hc, heq⟩ | ⟨hopen, hlate, heq⟩ | ⟨hopen, -, heq⟩ :=
      settleCombined_cases (updateSlots r { s with inputs := fs.map frameInput, now := max s.now f.2 }) <;>
      rw [heq] at hrun
    · obtain ⟨rfl, rfl⟩ := run_idle_frames rfl (by simp) hrun
      obtain rfl : rs = [] := by simpa using hrs.symm
      refine .inr (.inl ⟨rfl, rfl, w, c, ?_, ?_, rfl⟩)
      · rw [lastTemperature_cons]
        simpa [lastTemperature] using hw
      · rw [lastCo2_cons]
        simpa [lastCo2] using hc
    · obtain ⟨rfl, rfl⟩ := run_idle_frames rfl (by simp) hrun
      obtain rfl : rs = [] := by simpa using hrs.symm
      obtain ⟨hen, hover⟩ := (timeoutExceeded_iff ..).1 hlate
      refine .inr (.inr ⟨rfl, rfl, ?_, by simpa using hen, by simpa using hover⟩)
      rw [lastTemperature_cons, lastCo2_cons]
      simpa [lastTemperature, lastCo2] using hopen
    · exact combinedRunEnds_of_looped (ih rs _ (by simpa using hcomb) (by simp) (by simpa using hrs) hrun)

/-- Settles O59: `combinedRun_ends` from empty slots. -/
theorem combinedRunKeepsMostRecentOfEach : Obligations.CombinedRunKeepsMostRecentOfEach := by
  intro s t fs rs hcomb htemp hco2 hin hrs h
  have hends := combinedRun_ends fs rs s t hcomb hin hrs h
  simpa only [CombinedRunEnds, htemp, hco2, Option.or_none] using hends

end Sys2Proof.Proofs
end

section
/-!
Binary32 (00_scope.md R12, G2) as Machine/Scaling.lean writes it, and the renderings of readings (41_validator.md R141, R142).
-/
namespace Sys2Proof.Proofs

open Sys2Proof.Machine

/-! ### Exponents -/

theorem pow2_eq_zpow (e : ℤ) : pow2 e = (2 : ℚ) ^ e := by
  unfold pow2
  split
  · obtain ⟨k, rfl⟩ := Int.eq_ofNat_of_zero_le ‹0 ≤ e›
    simp
  · obtain ⟨k, rfl⟩ : ∃ k : ℕ, e = -k := ⟨(-e).toNat, by omega⟩
    simp

/-- The integer logarithm of `q` is the exponent of the power of 2 that `q` lies at or above. -/
theorem log_two_eq {q : ℚ} (hq : 0 < q) {z : ℤ} (hle : (2 : ℚ) ^ z ≤ q) (hlt : q < (2 : ℚ) ^ (z + 1)) : Int.log 2 q = z := by
  have h1 : z ≤ Int.log 2 q := (Int.zpow_le_iff_le_log one_lt_two hq).1 (by exact_mod_cast hle)
  have h2 : Int.log 2 q < z + 1 := (Int.lt_zpow_iff_log_lt one_lt_two hq).1 (by exact_mod_cast hlt)
  omega

/-- The difference of the two logarithms is the exponent of a quotient, or one more than it. -/
theorem log2_sub_bounds {n d : ℕ} (hn : 0 < n) (hd : 0 < d) :
    (2 : ℚ) ^ ((n.log2 : ℤ) - d.log2 - 1) < (n : ℚ) / d ∧ (n : ℚ) / d < (2 : ℚ) ^ ((n.log2 : ℤ) - d.log2 + 1) := by
  have hn1 : (2 : ℚ) ^ n.log2 ≤ n := by exact_mod_cast Nat.log2_self_le hn.ne'
  have hn2 : (n : ℚ) < 2 ^ (n.log2 + 1) := by exact_mod_cast Nat.lt_log2_self
  have hd1 : (2 : ℚ) ^ d.log2 ≤ d := by exact_mod_cast Nat.log2_self_le hd.ne'
  have hd2 : (d : ℚ) < 2 ^ (d.log2 + 1) := by exact_mod_cast Nat.lt_log2_self
  have hd0 : (0 : ℚ) < d := by exact_mod_cast hd
  constructor
  · have hexp : (n.log2 : ℤ) - d.log2 - 1 = (n.log2 : ℤ) - (d.log2 + 1 : ℕ) := by push_cast; ring
    rw [hexp, zpow_sub₀ two_ne_zero, zpow_natCast, zpow_natCast]
    exact div_lt_div₀' hn1 hd2 (by positivity) hd0
  · have hexp : (n.log2 : ℤ) - d.log2 + 1 = (n.log2 + 1 : ℕ) - (d.log2 : ℤ) := by push_cast; ring
    rw [hexp, zpow_sub₀ two_ne_zero, zpow_natCast, zpow_natCast]
    exact div_lt_div₀ hn2 hd1 (by positivity) (by positivity)

/-- The comparison by which `binary32Exponent` decides between the two. -/
theorem reached_iff {n d : ℕ} (hd : 0 < d) (a : ℤ) :
    (if 0 ≤ a then decide (2 ^ a.toNat * d ≤ n) else decide (d ≤ n * 2 ^ (-a).toNat)) = true ↔ (2 : ℚ) ^ a ≤ (n : ℚ) / d := by
  have hd0 : (0 : ℚ) < d := by exact_mod_cast hd
  rw [le_div_iff₀ hd0]
  split
  · obtain ⟨k, rfl⟩ := Int.eq_ofNat_of_zero_le ‹0 ≤ a›
    rw [decide_eq_true_iff, Int.toNat_natCast, zpow_natCast]
    exact_mod_cast Iff.rfl
  · obtain ⟨k, rfl⟩ : ∃ k : ℕ, a = -k := ⟨(-a).toNat, by omega⟩
    rw [decide_eq_true_iff, neg_neg, Int.toNat_natCast, zpow_neg, zpow_natCast, inv_mul_le_iff₀ (by positivity), mul_comm]
    exact_mod_cast Iff.rfl

/-- The exponent of a positive quotient, held at the smallest one of binary32. -/
theorem binary32Exponent_eq {n d : ℕ} (hn : 0 < n) (hd : 0 < d) :
    binary32Exponent n d = max (Int.log 2 ((n : ℚ) / d)) (-126) := by
  have hq : (0 : ℚ) < (n : ℚ) / d := by positivity
  obtain ⟨hlow, hhigh⟩ := log2_sub_bounds hn hd
  have hr := reached_iff (n := n) hd ((n.log2 : ℤ) - d.log2)
  unfold binary32Exponent
  simp only [hr]
  split_ifs with hreached
  · rw [log_two_eq hq hreached hhigh]
  · rw [log_two_eq hq hlow.le (by rwa [sub_add_cancel, ← not_le])]

/-- The exponent of the binary32 value next to a rational number. -/
def floatExponent (x : ℚ) : ℤ := max (Int.log 2 |x|) (-126)

/-! ### Significands -/

/-- Rounding to a natural number moves by a half at most (R12). -/
theorem abs_roundHalfEven_sub_le {n d : ℕ} (hd : 0 < d) : |(roundHalfEven n d : ℚ) - (n : ℚ) / d| ≤ 1 / 2 := by
  have hd0 : (0 : ℚ) < d := by exact_mod_cast hd
  have hdiv : (n : ℚ) = d * (n / d : ℕ) + (n % d : ℕ) := by exact_mod_cast (Nat.div_add_mod n d).symm
  have hmod : ((n % d : ℕ) : ℚ) < d := by exact_mod_cast Nat.mod_lt n hd
  have hquot : (n : ℚ) / d = (n / d : ℕ) + (n % d : ℕ) / (d : ℚ) := by
    rw [div_eq_iff hd0.ne', add_mul, div_mul_cancel₀ _ hd0.ne', mul_comm]
    exact hdiv
  rw [hquot, roundHalfEven, abs_le]
  split
  · have hup : (d : ℚ) ≤ 2 * (n % d : ℕ) := by exact_mod_cast (show d ≤ 2 * (n % d) by omega)
    have h1 : (n % d : ℕ) / (d : ℚ) ≤ 1 := (div_le_one hd0).2 hmod.le
    have h2 : 1 / 2 ≤ (n % d : ℕ) / (d : ℚ) := by rw [le_div_iff₀ hd0]; linarith
    push_cast
    constructor <;> linarith
  · have hdown : 2 * ((n % d : ℕ) : ℚ) ≤ d := by exact_mod_cast (show 2 * (n % d) ≤ d by omega)
    have h1 : 0 ≤ (n % d : ℕ) / (d : ℚ) := by positivity
    have h2 : (n % d : ℕ) / (d : ℚ) ≤ 1 / 2 := by rw [div_le_iff₀ hd0]; linarith
    constructor <;> linarith

/-- The significand of a quotient is the quotient in units of the last place, rounded. -/
theorem abs_binary32Significand_sub_le {n d : ℕ} (hd : 0 < d) (e : ℤ) :
    |(binary32Significand n d e : ℚ) - (n : ℚ) / d * 2 ^ (23 - e)| ≤ 1 / 2 := by
  unfold binary32Significand
  split
  · obtain ⟨k, hk⟩ := Int.eq_ofNat_of_zero_le ‹0 ≤ 23 - e›
    have h := abs_roundHalfEven_sub_le (n := n * 2 ^ (23 - e).toNat) hd
    rw [hk, Int.toNat_natCast] at h ⊢
    rw [zpow_natCast, div_mul_eq_mul_div]
    exact_mod_cast h
  · obtain ⟨k, hk⟩ : ∃ k : ℕ, e - 23 = k := ⟨(e - 23).toNat, by omega⟩
    have hneg : 23 - e = -(k : ℤ) := by omega
    have h := abs_roundHalfEven_sub_le (n := n) (d := d * 2 ^ (e - 23).toNat) (by positivity)
    rw [hk, Int.toNat_natCast] at h ⊢
    rw [hneg, zpow_neg, zpow_natCast, ← div_eq_mul_inv, div_div]
    exact_mod_cast h

/-! ### Rounding to binary32 -/

/-- The significand of the binary32 value next to a rational number. -/
def floatSignificand (x : ℚ) : ℕ := binary32Significand x.num.natAbs x.den (floatExponent x)

theorem natAbs_num_div_den (x : ℚ) : (x.num.natAbs : ℚ) / x.den = |x| := by
  rw [Nat.cast_natAbs, Int.cast_abs]
  conv_rhs => rw [← Rat.num_div_den x, abs_div, Nat.abs_cast]

theorem binary32Exponent_num_den {x : ℚ} (hx : x ≠ 0) : binary32Exponent x.num.natAbs x.den = floatExponent x := by
  rw [binary32Exponent_eq (Int.natAbs_pos.2 (Rat.num_ne_zero.2 hx)) x.den_pos, natAbs_num_div_den, floatExponent]

theorem abs_floatSignificand_sub_le (x : ℚ) :
    |(floatSignificand x : ℚ) - |x| * 2 ^ (23 - floatExponent x)| ≤ 1 / 2 := by
  rw [← natAbs_num_div_den x]
  exact abs_binary32Significand_sub_le x.den_pos _

theorem floatExponent_neg (x : ℚ) : floatExponent (-x) = floatExponent x := by
  rw [floatExponent, floatExponent, abs_neg]

theorem floatSignificand_neg (x : ℚ) : floatSignificand (-x) = floatSignificand x := by
  rw [floatSignificand, floatSignificand, floatExponent_neg, Rat.num_neg_eq_neg_num, Int.natAbs_neg, Rat.den_neg_eq_den]

@[simp] theorem fl32_zero : fl32 0 = 0 := by simp [fl32]

theorem fl32_of_pos {x : ℚ} (hx : 0 < x) : fl32 x = floatSignificand x * 2 ^ (floatExponent x - 23) := by
  rw [← pow2_eq_zpow, floatSignificand, ← binary32Exponent_num_den hx.ne']
  exact (if_neg hx.ne').trans (if_neg hx.le.not_gt)

theorem fl32_neg (x : ℚ) : fl32 (-x) = -fl32 x := by
  have hneg {y : ℚ} (hy : 0 < y) : fl32 (-y) = -fl32 y := by
    rw [fl32_of_pos hy, ← pow2_eq_zpow, ← floatSignificand_neg, ← floatExponent_neg, floatSignificand,
      ← binary32Exponent_num_den (by simpa using hy.ne')]
    exact (if_neg (by simpa using hy.ne')).trans (if_pos (by simpa using hy))
  obtain hlt | rfl | hgt := lt_trichotomy x 0
  · have h := hneg (y := -x) (by simpa using hlt)
    rw [neg_neg] at h
    rw [h, neg_neg]
  · simp
  · exact hneg hgt

theorem zpow_mul_zpow_cancel (e : ℤ) : (2 : ℚ) ^ (23 - e) * 2 ^ (e - 23) = 1 := by
  rw [← zpow_add₀ two_ne_zero]
  simp

/-- R12: rounding moves a number by half a unit of the last place at most. -/
theorem abs_fl32_sub_le (x : ℚ) : |fl32 x - x| ≤ 2 ^ (floatExponent x - 24) := by
  have hpos {y : ℚ} (hy : 0 < y) : |fl32 y - y| ≤ 2 ^ (floatExponent y - 24) := by
    have hsig := abs_floatSignificand_sub_le y
    rw [abs_of_pos hy] at hsig
    have hunit : (0 : ℚ) < 2 ^ (floatExponent y - 23) := by positivity
    calc |fl32 y - y|
      _ = |(floatSignificand y : ℚ) - y * 2 ^ (23 - floatExponent y)| * 2 ^ (floatExponent y - 23) := by
        rw [← abs_of_pos hunit, ← abs_mul, sub_mul, mul_assoc, zpow_mul_zpow_cancel, mul_one,
          fl32_of_pos hy]
      _ ≤ 1 / 2 * 2 ^ (floatExponent y - 23) := mul_le_mul_of_nonneg_right hsig hunit.le
      _ = 2 ^ (floatExponent y - 24) := by
        rw [show floatExponent y - 23 = floatExponent y - 24 + 1 by ring, zpow_add_one₀ two_ne_zero]
        ring
  obtain hlt | rfl | hgt := lt_trichotomy x 0
  · have h := hpos (y := -x) (by simpa using hlt)
    rwa [fl32_neg, floatExponent_neg, neg_sub_neg, abs_sub_comm] at h
  · simpa using zpow_nonneg zero_le_two _
  · exact hpos hgt

/-- A rational number below a power of 2 has a smaller exponent. -/
theorem floatExponent_le {x : ℚ} (hx : x ≠ 0) {z : ℤ} (hz : -126 ≤ z) (hlt : |x| < 2 ^ (z + 1)) : floatExponent x ≤ z := by
  have hlog : Int.log 2 |x| < z + 1 := (Int.lt_zpow_iff_log_lt one_lt_two (abs_pos.2 hx)).1 (by exact_mod_cast hlt)
  exact max_le (by omega) hz

/-- Natural numbers that differ by a half at most are equal. -/
theorem nat_eq_of_abs_sub_le {m n : ℕ} (h : |(m : ℚ) - n| ≤ 1 / 2) : m = n := by
  have hlt : |(m : ℚ) - n| < 1 := h.trans_lt (by norm_num)
  have hint : |(m : ℤ) - n| < 1 := by exact_mod_cast hlt
  rw [Int.abs_lt_one_iff] at hint
  omega

/-- R12: a number that is a whole count of units of its last place is not moved. -/
theorem fl32_of_dyadic {x : ℚ} {k : ℕ} {j : ℤ} (hx : x = k * 2 ^ j) (hj : floatExponent x - 23 ≤ j) : fl32 x = x := by
  obtain h0 | hpos := (show 0 ≤ x by rw [hx]; positivity).eq_or_lt
  · rw [← h0, fl32_zero]
  · obtain ⟨i, hi⟩ := Int.eq_ofNat_of_zero_le (show 0 ≤ j - (floatExponent x - 23) by omega)
    have hwhole : x * 2 ^ (23 - floatExponent x) = (k * 2 ^ i : ℕ) := by
      have hexp : j + (23 - floatExponent x) = i := by omega
      conv_lhs => rw [hx, mul_assoc, ← zpow_add₀ two_ne_zero]
      rw [← hx, hexp, zpow_natCast]
      push_cast
      rfl
    have hsig := abs_floatSignificand_sub_le x
    rw [abs_of_pos hpos, hwhole] at hsig
    rw [fl32_of_pos hpos, nat_eq_of_abs_sub_le hsig, ← hwhole, mul_assoc, zpow_mul_zpow_cancel, mul_one]

/-! ### The constants of the renderings, and the operands that are exact -/

/-- R141: the value of `fl32(273.15)`. -/
theorem fl32_kelvin : fl32 (27315 / 100) = 8950579 / 2 ^ 15 := by decide +kernel

/-- R142: the value of `fl32(0.01)`. -/
theorem fl32_hundredth : fl32 (1 / 100) = 5368709 / 2 ^ 29 := by decide +kernel

theorem value_lt (v : Value) : (v.toNat : ℚ) < 2 ^ 16 := by exact_mod_cast v.isLt

/-- R141: `v / 16` has 16 significant bits at most. -/
theorem fl32_sixteenth (v : Value) : fl32 ((v.toNat : ℚ) / 16) = (v.toNat : ℚ) / 16 := by
  by_cases h0 : (v.toNat : ℚ) / 16 = 0
  · rw [h0, fl32_zero]
  · have hlt := value_lt v
    have hexp : floatExponent ((v.toNat : ℚ) / 16) ≤ 11 := by
      refine floatExponent_le h0 (by norm_num) ?_
      rw [abs_of_nonneg (by positivity)]
      norm_num
      linarith
    exact fl32_of_dyadic (k := v.toNat) (j := -4) (by norm_num [div_eq_mul_inv]) (by omega)

/-- R142: `v` has 16 significant bits at most. -/
theorem fl32_value (v : Value) : fl32 (v.toNat : ℚ) = (v.toNat : ℚ) := by
  by_cases h0 : (v.toNat : ℚ) = 0
  · rw [h0, fl32_zero]
  · have hexp : floatExponent (v.toNat : ℚ) ≤ 15 := by
      refine floatExponent_le h0 (by norm_num) ?_
      rw [abs_of_nonneg (by positivity)]
      exact_mod_cast v.isLt
    exact fl32_of_dyadic (k := v.toNat) (j := 0) (by simp) (by omega)

/-- Settles O23: `v / 16` is exact by `fl32_sixteenth`; the constant and the examples are evaluated. -/
theorem temperatureRendering : Obligations.TemperatureRendering :=
  ⟨fun _ => rfl, fl32_sixteenth, by decide +kernel, by decide +kernel, by decide +kernel, by decide +kernel,
    by decide +kernel, by decide +kernel⟩

/-- Settles O24: `v` is exact by `fl32_value`; the constant and the examples are evaluated. -/
theorem humidityRendering : Obligations.HumidityRendering :=
  ⟨fun _ => rfl, fl32_value, by decide +kernel, by decide +kernel, by decide +kernel, by decide +kernel,
    by decide +kernel, by decide +kernel, by decide +kernel, by decide +kernel, by decide +kernel⟩

/-- The number that TempF32 rounds (R141). -/
theorem tempF32Value_eq (v : Value) : tempF32Value v = fl32 ((v.toNat : ℚ) / 16 - 8950579 / 2 ^ 15) := by
  rw [tempF32Value, fl32_sixteenth, fl32_kelvin]

/-- The number that HumF32 rounds (R142). -/
theorem humF32Value_eq (v : Value) : humF32Value v = fl32 ((v.toNat : ℚ) * (5368709 / 2 ^ 29)) := by
  rw [humF32Value, fl32_value, fl32_hundredth]

/-- Rounding a number below a power of 2 moves it by half of the last place there. -/
theorem abs_fl32_sub_le_of_lt {x : ℚ} {z : ℤ} (hz : -126 ≤ z) (hlt : |x| < 2 ^ (z + 1)) : |fl32 x - x| ≤ 2 ^ (z - 24) := by
  by_cases hx : x = 0
  · rw [hx, fl32_zero, sub_zero, abs_zero]
    positivity
  · refine (abs_fl32_sub_le x).trans (zpow_le_zpow_right₀ one_le_two ?_)
    have := floatExponent_le hx hz hlt
    omega

/-- Settles O25: the last rounding is of a number below 4096 or 1024, and the constants differ from 273.15 and 0.01 by less than
the rest of the bounds. -/
theorem renderingsNearExactValues : Obligations.RenderingsNearExactValues := by
  refine ⟨fun v => ?_, fun v => ?_⟩
  · have hlt := value_lt v
    have h0 : (0 : ℚ) ≤ v.toNat := Nat.cast_nonneg _
    have hround := abs_fl32_sub_le_of_lt (x := (v.toNat : ℚ) / 16 - 8950579 / 2 ^ 15) (z := 11) (by norm_num)
      (by rw [abs_lt]; constructor <;> norm_num <;> linarith)
    rw [tempF32Value_eq, temperatureExact]
    rw [abs_le] at hround ⊢
    norm_num at hround ⊢
    constructor <;> linarith
  · have hlt := value_lt v
    have h0 : (0 : ℚ) ≤ v.toNat := Nat.cast_nonneg _
    have hround := abs_fl32_sub_le_of_lt (x := (v.toNat : ℚ) * (5368709 / 2 ^ 29)) (z := 9) (by norm_num)
      (by rw [abs_lt]; constructor <;> norm_num <;> linarith)
    rw [humF32Value_eq, humidityExact]
    rw [abs_le] at hround ⊢
    norm_num at hround ⊢
    constructor <;> linarith

/-! ### Patterns -/

/-- A normal binary32 number of significand `m` and exponent `e` (G2). -/
structure IsNormal (f : ℚ) (m : ℕ) (e : ℤ) : Prop where
  significand_ge : 2 ^ 23 ≤ m
  significand_lt : m < 2 ^ 24
  exponent_ge : -126 ≤ e
  exponent_le : e ≤ 127
  magnitude : |f| = m * 2 ^ (e - 23)

theorem zpow_add_sub_23 (k : ℕ) (e : ℤ) : (2 : ℚ) ^ k * 2 ^ (e - 23) = 2 ^ (e + k - 23) := by
  rw [← zpow_natCast, ← zpow_add₀ two_ne_zero]
  congr 1
  ring

section
variable {f : ℚ} {m : ℕ} {e : ℤ} (h : IsNormal f m e)
include h

theorem IsNormal.bounds : (2 : ℚ) ^ e ≤ |f| ∧ |f| < 2 ^ (e + 1) := by
  have hunit : (0 : ℚ) < 2 ^ (e - 23) := by positivity
  have hge : (2 : ℚ) ^ 23 ≤ m := by exact_mod_cast h.significand_ge
  have hlt : (m : ℚ) < 2 ^ 24 := by exact_mod_cast h.significand_lt
  rw [h.magnitude]
  constructor
  · calc (2 : ℚ) ^ e
      _ = 2 ^ 23 * 2 ^ (e - 23) := by rw [zpow_add_sub_23]; simp
      _ ≤ m * 2 ^ (e - 23) := mul_le_mul_of_nonneg_right hge hunit.le
  · calc m * (2 : ℚ) ^ (e - 23)
      _ < 2 ^ 24 * 2 ^ (e - 23) := mul_lt_mul_of_pos_right hlt hunit
      _ = 2 ^ (e + 1) := by rw [zpow_add_sub_23]; congr 1; push_cast; ring

theorem IsNormal.ne_zero : f ≠ 0 := by
  rintro rfl
  have hpos : (0 : ℚ) < 2 ^ e := by positivity
  simpa using hpos.trans_le h.bounds.1

theorem IsNormal.floatExponent_eq : floatExponent f = e := by
  rw [floatExponent, log_two_eq (abs_pos.2 h.ne_zero) h.bounds.1 h.bounds.2]
  exact max_eq_left h.exponent_ge

theorem IsNormal.floatSignificand_eq : floatSignificand f = m := by
  have hsig := abs_floatSignificand_sub_le f
  rw [h.floatExponent_eq, h.magnitude, mul_assoc, mul_comm (2 ^ (e - 23)), zpow_mul_zpow_cancel, mul_one] at hsig
  exact nat_eq_of_abs_sub_le hsig

/-- R12: the pattern of a normal number: sign, biased exponent, significand below its leading bit. -/
theorem IsNormal.bits32_eq :
    bits32 f = BitVec.ofNat 32 ((if f < 0 then 1 else 0) * 2 ^ 31 + (e + 127).toNat * 2 ^ 23 + (m - 2 ^ 23)) := by
  have hge := h.significand_ge
  have hexp := h.exponent_ge
  have hpattern : bits32 f =
      BitVec.ofNat 32 ((if f < 0 then 2 ^ 31 else 0) + ((floatExponent f + 126) * 2 ^ 23 + (floatSignificand f : ℤ)).toNat) := by
    rw [floatSignificand, ← binary32Exponent_num_den h.ne_zero]
    exact if_neg h.ne_zero
  rw [hpattern, h.floatExponent_eq, h.floatSignificand_eq]
  refine congrArg (BitVec.ofNat 32) ?_
  split <;> omega

end

/-- R12: what a pattern of a biased exponent other than 0 stands for. -/
theorem binary32Value_ofNat {sign biased fraction : ℕ} (hsign : sign < 2) (h0 : 0 < biased) (hbiased : biased < 256)
    (hfraction : fraction < 2 ^ 23) :
    binary32Value (BitVec.ofNat 32 (sign * 2 ^ 31 + biased * 2 ^ 23 + fraction)) =
      (if sign = 1 then -1 else 1) * ((2 ^ 23 + fraction : ℕ) * 2 ^ ((biased : ℤ) - 150)) := by
  generalize hw : BitVec.ofNat 32 (sign * 2 ^ 31 + biased * 2 ^ 23 + fraction) = w
  have hn : w.toNat = sign * 2 ^ 31 + biased * 2 ^ 23 + fraction := by
    rw [← hw, BitVec.toNat_ofNat]
    omega
  have hb : (w.extractLsb' 23 8).toNat = biased := by
    rw [BitVec.extractLsb'_toNat, Nat.shiftRight_eq_div_pow, hn]
    omega
  have hf : (w.extractLsb' 0 23).toNat = fraction := by
    rw [BitVec.extractLsb'_toNat, Nat.shiftRight_eq_div_pow, hn]
    omega
  have hs : w.extractLsb' 31 1 = 1 ↔ sign = 1 := by
    rw [← BitVec.toNat_inj, BitVec.extractLsb'_toNat, Nat.shiftRight_eq_div_pow, hn]
    have : (1 : BitVec 1).toNat = 1 := rfl
    omega
  rw [binary32Value, hb, hf, if_neg h0.ne', pow2_eq_zpow]
  by_cases h1 : sign = 1
  · rw [if_pos (hs.2 h1), if_pos h1, neg_one_mul]
  · rw [if_neg (mt hs.1 h1), if_neg h1, one_mul]

/-- The pattern of a normal number stands for it. -/
theorem IsNormal.binary32Value_bits32 {f : ℚ} {m : ℕ} {e : ℤ} (h : IsNormal f m e) : binary32Value (bits32 f) = f := by
  have hge := h.significand_ge
  have hlt := h.significand_lt
  have hexp := h.exponent_ge
  have hexp' := h.exponent_le
  have hunit : ((e + 127).toNat : ℤ) - 150 = e - 23 := by omega
  rw [h.bits32_eq, binary32Value_ofNat (by split <;> decide) (by omega) (by omega) (by omega), hunit,
    Nat.add_sub_cancel' hge, ← h.magnitude]
  obtain hneg | hpos := lt_or_ge f 0
  · simp [hneg, abs_of_neg hneg]
  · simp [hpos.not_gt, abs_of_nonneg hpos]

theorem abs_fl32 {x : ℚ} (hx : x ≠ 0) : |fl32 x| = floatSignificand x * 2 ^ (floatExponent x - 23) := by
  obtain hneg | hpos := hx.lt_or_gt
  · rw [← abs_neg, ← fl32_neg, fl32_of_pos (by simpa using hneg), floatSignificand_neg, floatExponent_neg, abs_of_nonneg]
    positivity
  · rw [fl32_of_pos hpos, abs_of_nonneg]
    positivity

/-- The significand of a number of binary32's normal range has 24 bits, or is rounded up to the next power of 2. -/
theorem significand_bounds {x : ℚ} (hpos : 0 < |x|) (hlog : -126 ≤ Int.log 2 |x|) :
    2 ^ 23 ≤ floatSignificand x ∧ floatSignificand x ≤ 2 ^ 24 := by
  have hexp : floatExponent x = Int.log 2 |x| := max_eq_left hlog
  have hlow : (2 : ℚ) ^ floatExponent x ≤ |x| := hexp ▸ by exact_mod_cast Int.zpow_log_le_self one_lt_two hpos
  have hhigh : |x| < (2 : ℚ) ^ (floatExponent x + 1) := hexp ▸ by exact_mod_cast Int.lt_zpow_succ_log_self one_lt_two |x|
  have hsig := abs_le.1 (abs_floatSignificand_sub_le x)
  have hunit : (0 : ℚ) < 2 ^ (23 - floatExponent x) := by positivity
  have hlow' : (2 : ℚ) ^ 23 ≤ |x| * 2 ^ (23 - floatExponent x) := by
    refine le_trans (le_of_eq ?_) (mul_le_mul_of_nonneg_right hlow hunit.le)
    rw [← zpow_add₀ two_ne_zero, add_sub_cancel]
    rfl
  have hhigh' : |x| * 2 ^ (23 - floatExponent x) < (2 : ℚ) ^ 24 := by
    refine lt_of_lt_of_eq (mul_lt_mul_of_pos_right hhigh hunit) ?_
    rw [← zpow_add₀ two_ne_zero, show floatExponent x + 1 + (23 - floatExponent x) = 24 by ring]
    rfl
  constructor
  · have h : (2 ^ 23 : ℕ) < (floatSignificand x : ℚ) + 1 := by push_cast; linarith
    exact Nat.lt_succ_iff.1 (by exact_mod_cast h)
  · have h : (floatSignificand x : ℚ) < (2 ^ 24 : ℕ) + 1 := by push_cast; linarith
    exact Nat.lt_succ_iff.1 (by exact_mod_cast h)

/-- Rounding a number of binary32's normal range gives a normal number; a significand rounded up to 24 bits of 0 moves to the next
exponent. -/
theorem fl32_isNormal {x : ℚ} (hge : 2 ^ (-126 : ℤ) ≤ |x|) (hlt : |x| < 2 ^ (127 : ℤ)) : ∃ m e, IsNormal (fl32 x) m e := by
  have hpos : 0 < |x| := lt_of_lt_of_le (by positivity) hge
  have hx : x ≠ 0 := abs_pos.1 hpos
  have hlog : -126 ≤ Int.log 2 |x| := (Int.zpow_le_iff_le_log one_lt_two hpos).1 (by exact_mod_cast hge)
  have hexp : floatExponent x = Int.log 2 |x| := max_eq_left hlog
  have hexp' : floatExponent x ≤ 126 := floatExponent_le hx (by norm_num) hlt
  obtain ⟨hlow, hhigh⟩ := significand_bounds hpos hlog
  obtain hcarry | hcarry := hhigh.lt_or_eq
  · exact ⟨_, _, hlow, hcarry, by omega, by omega, abs_fl32 hx⟩
  · refine ⟨2 ^ 23, floatExponent x + 1, le_rfl, by norm_num, by omega, by omega, ?_⟩
    rw [abs_fl32 hx, hcarry, Nat.cast_pow, Nat.cast_pow, Nat.cast_ofNat, zpow_add_sub_23, zpow_add_sub_23]
    congr 1
    push_cast
    ring

/-- R12: the pattern put out for a rounded number stands for it. -/
theorem binary32Value_bits32_fl32 {x : ℚ} (h : x = 0 ∨ (2 ^ (-126 : ℤ) ≤ |x| ∧ |x| < 2 ^ (127 : ℤ))) :
    binary32Value (bits32 (fl32 x)) = fl32 x := by
  obtain rfl | ⟨hge, hlt⟩ := h
  · rw [fl32_zero]
    decide +kernel
  · obtain ⟨m, e, hnormal⟩ := fl32_isNormal hge hlt
    exact hnormal.binary32Value_bits32

/-- A number between the last place of 273.15 and 2^16 is in binary32's normal range. -/
theorem normal_of_bounds {x : ℚ} (hge : 1 / 2 ^ 15 ≤ |x|) (hlt : |x| < 2 ^ 16) :
    2 ^ (-126 : ℤ) ≤ |x| ∧ |x| < 2 ^ (127 : ℤ) :=
  ⟨le_trans (by norm_num) hge, lt_trans hlt (by norm_num)⟩

/-- R141: `v / 16 - fl32(273.15)` is an odd count of units of 2^-15, so it is not 0. -/
theorem temperature_operand_ge (v : Value) : 1 / 2 ^ 15 ≤ |(v.toNat : ℚ) / 16 - 8950579 / 2 ^ 15| := by
  have hodd : 1 ≤ |(v.toNat : ℤ) * 2048 - 8950579| := Int.one_le_abs (by omega)
  have hcast : (1 : ℚ) ≤ |(v.toNat : ℚ) * 2048 - 8950579| := by exact_mod_cast hodd
  have hunits : (v.toNat : ℚ) / 16 - 8950579 / 2 ^ 15 = ((v.toNat : ℚ) * 2048 - 8950579) * (1 / 2 ^ 15) := by ring
  rw [hunits, abs_mul, abs_of_pos (show (0 : ℚ) < 1 / 2 ^ 15 by norm_num)]
  exact le_mul_of_one_le_left (by norm_num) hcast

/-- Settles O26: the numbers that are rounded are 0 or in binary32's normal range. -/
theorem patternsStandForTheirValues : Obligations.PatternsStandForTheirValues := by
  refine ⟨fun v => ?_, fun v => ?_⟩
  · rw [tempF32, tempF32Value_eq]
    refine binary32Value_bits32_fl32 (.inr (normal_of_bounds (temperature_operand_ge v) ?_))
    have hlt := value_lt v
    have h0 : (0 : ℚ) ≤ v.toNat := Nat.cast_nonneg _
    rw [abs_lt]
    constructor <;> norm_num <;> linarith
  · rw [humF32, humF32Value_eq]
    refine binary32Value_bits32_fl32 ?_
    obtain h0 | hpos := Nat.eq_zero_or_pos v.toNat
    · exact .inl (by rw [h0]; norm_num)
    · have hlt := value_lt v
      have h1 : (1 : ℚ) ≤ v.toNat := by exact_mod_cast hpos
      refine .inr (normal_of_bounds ?_ ?_) <;> rw [abs_of_nonneg (by positivity)]
      · norm_num
        linarith
      · norm_num
        linarith

end Sys2Proof.Proofs
end
